-- ==== Sys2Proof/Word.lean ====
section
/-! DEFINITION. The byte, the smallest unit the block reads (spec R65), and the 64-bit instruction-pointer value (R20). -/

namespace Sys2Proof

/-- One byte of the request buffer (R60, R65). -/
abbrev Byte := BitVec 8

/-- An instruction-pointer value: `IP_WIDTH` = 64 bits (R6, R20). -/
abbrev Ip := BitVec 64

end Sys2Proof
end

