-- ==== Sys2Proof/Config.lean ====
section
/-! DEFINITION. The value sets of the parameters of the block (spec R6), its constant parameters, and its one free value. The parameters that a
model takes are fields of `Params` in Syntax.lean, which the machine's state carries, so that a statement about every
state covers every choice (log entry 2). -/

namespace Sys2Proof

/-- The operating mode of one request (R20, R310): the three legal values and no other (U2 of 93_implementation_defined.md). -/
inductive Bitness
  | b16 | b32 | b64
  deriving DecidableEq, Repr

/-- `P_LEGACY_MP_BEFORE_VEX` (R6, R170): a legacy 66h, F2h, F3h or REX before a VEX or EVEX escape. -/
inductive LegacyBeforeEscape
  | fail      -- the decode fails (reference value)
  | ppWins    -- the prefixes are dropped and `pp` alone counts
  deriving DecidableEq, Repr

/-- `P_EXT_BITS_NON64` (R6, R171): an extension bit asserted outside 64-bit mode. -/
inductive ExtBitsNon64
  | fail      -- the decode fails (reference value)
  | ignore    -- the four bits are cleared
  deriving DecidableEq, Repr

/-- `P_BRANCH66_IN64` (R6, R317): 66h on a near branch in 64-bit mode. -/
inductive Branch66In64
  | ignore66  -- the prefix changes nothing (reference value)
  | width16   -- the table has rows of width 16 for it
  deriving DecidableEq, Repr

/-- `MAXLEN` (R6, R153): the most bytes one transaction may consume. -/
def maxLen : Nat := 15

/-- `MAX_OPERANDS` (R6, R33). -/
def maxOperands : Nat := 4

/-- FREE VALUE (log entry 17): which general register of a width (8, 16, 32 or 64 bits) a number 16 to 31 names. R45 says of
no member, and only a row that the reference content lacks gives such a number (R264). -/
opaque Config.generalBeyond (bits : Nat) (n : BitVec 5) : BitVec 4

end Sys2Proof
end

