-- ==== Sys2Proof/Machine/Memory.lean ====
section
/-! DEFINITION. The one memory of the block, the request buffer `BUF` with its length `LEN` (spec R20, R60), as a list of
(address, byte) cells in one canonical form, and the byte order of multi-byte fields (R61). The block only reads it; `write`
and `ofBytes` are the caller's, who supplies the buffer (R20). -/

namespace Sys2Proof

/-- What an index of the buffer that no cell lists reads as: a choice of representation, since the caller supplies every
byte from 0 to `LEN-1` (log entry 1). -/
def unlistedByte : Byte := 0

/-- The byte at an address, listed or not. -/
def cellsRead : List Host.Cell → Nat → Byte
  | [], _ => unlistedByte
  | c :: cs, a => if c.1 = a then c.2 else cellsRead cs a

/-- The cells with address `a` reading `v`, in canonical form if they were so. -/
def cellsWrite : List Host.Cell → Nat → Byte → List Host.Cell
  | [], a, v => if v = unlistedByte then [] else [(a, v)]
  | c :: cs, a, v =>
    if a < c.1 then (if v = unlistedByte then c :: cs else (a, v) :: c :: cs)
    else if a = c.1 then (if v = unlistedByte then cs else (a, v) :: cs)
    else c :: cellsWrite cs a v

/-- The canonical form: addresses strictly rising from `lo`, all below `len`, no cell equal to what an unlisted address
reads as. -/
def cellsWf : Nat → Nat → List Host.Cell → Bool
  | _, _, [] => true
  | lo, len, c :: cs => decide (lo ≤ c.1) && decide (c.1 < len) && decide (c.2 ≠ unlistedByte) && cellsWf (c.1 + 1) len cs

/-- The request buffer (R20, R60): its cells and its length `LEN`. -/
structure Memory where
  cells : List Host.Cell
  len   : Nat
  deriving DecidableEq, Repr

/-- The canonical form holds. -/
def Memory.wf (b : Memory) : Bool := cellsWf 0 b.len b.cells

/-- `BUF[a]` for `a < LEN`; there is no byte at or past `LEN` (R60, R67). -/
def Memory.read (b : Memory) (a : Nat) : Option Byte :=
  if a < b.len then some (cellsRead b.cells a) else none

/-- The caller's write of one byte inside the buffer (R375: between transactions); outside it, nothing. -/
def Memory.write (b : Memory) (a : Nat) (v : Byte) : Memory :=
  if a < b.len then { b with cells := cellsWrite b.cells a v } else b

/-- The empty buffer: what the block sees before the first request (R370). -/
def Memory.empty : Memory := { cells := [], len := 0 }

/-- The cells of a byte string laid out from address `a`. -/
def cellsOfBytes : Nat → List Byte → List Host.Cell
  | _, [] => []
  | a, v :: vs => if v = unlistedByte then cellsOfBytes (a + 1) vs else (a, v) :: cellsOfBytes (a + 1) vs

/-- The buffer that holds exactly these bytes, first byte at index 0 (R9). -/
def Memory.ofBytes (bs : List Byte) : Memory := { cells := cellsOfBytes 0 bs, len := bs.length }

/-- Little-endian value of a byte string, first byte least significant (R61, R63, R154). -/
def leNat : List Byte → Nat
  | [] => 0
  | b :: bs => b.toNat + 256 * leNat bs

/-- The `n` bytes of a value, least significant first (R61). -/
def leBytes : Nat → Nat → List Byte
  | 0, _ => []
  | n + 1, v => BitVec.ofNat 8 v :: leBytes n (v / 256)

/-- The little-endian value of a byte string as a field of `w` bits. -/
def leBits (w : Nat) (bs : List Byte) : BitVec w := BitVec.ofNat w (leNat bs)

end Sys2Proof
end

