-- ==== Sys2Proof/Syntax.lean ====
section
/-! DEFINITION. What the block parses and what it names: the closed value sets of the spec (R37 to R48), the fields of an
encoding (R94 to R111), the template row (R30, R31), and `Instr`, one constructor for each row of the reference
`TEMPLATE_ROM` (R113 to R116), carrying what the bytes of that row's encoding carry. -/

namespace Sys2Proof

/-- Segment registers (R40). -/
inductive SegReg
  | ES | CS | SS | DS | FS | GS
  deriving DecidableEq, Repr

/-- `PS.rep`: the last of F3h (rep) and F2h (repne) (R26). -/
inductive Rep
  | F3 | F2
  deriving DecidableEq, Repr

/-- Encoding spaces (R48). -/
inductive Space
  | legacy | vex | evex
  deriving DecidableEq, Repr

/-- Opcode maps (R26, R106): `1B`, `0F`, `0F38`, `0F3A`. -/
inductive OpMap
  | m1B | m0F | m0F38 | m0F3A
  deriving DecidableEq, Repr

/-- Mandatory-prefix values (R26, R172, R173). -/
inductive MandPfx
  | NP | p66 | pF3 | pF2
  deriving DecidableEq, Repr

/-- Effective operand sizes (R311). -/
inductive OpSize
  | o16 | o32 | o64
  deriving DecidableEq, Repr

/-- Effective address sizes (R312). -/
inductive AddrSize
  | a16 | a32 | a64
  deriving DecidableEq, Repr

/-- Vector lengths (R30, R299). -/
inductive VecLen
  | l128 | l256 | l512
  deriving DecidableEq, Repr

/-- The `mod` key of a row (R30): mod different from 3, or mod equal to 3. -/
inductive ModClass
  | mem | reg
  deriving DecidableEq, Repr

/-- What a register-only EVEX form of a row may carry (R30): nothing, SAE only, or rounding control with SAE. -/
inductive ErSae
  | none | sae | er
  deriving DecidableEq, Repr

/-- Rounding control (R48); its `None` is the `none` of an `Option`. -/
inductive Rounding
  | RoundToNearest | RoundDown | RoundUp | RoundTowardZero
  deriving DecidableEq, Repr

/-- The four failure kinds (R48, R330), in the spec's order. -/
inductive FailureKind
  | EndOfInput | InvalidOpcode | InvalidModeForInstruction | InvalidLockUsage
  deriving DecidableEq, Repr

/-- Register classes of operand shapes (R31). -/
inductive RegClass
  | r8 | r16 | r32 | r64 | mm | xmm | ymm | zmm | k
  deriving DecidableEq, Repr

/-- Family `r8`, 20 members (R38). -/
inductive Reg8
  | AL | CL | DL | BL | AH | CH | DH | BH | SPL | BPL | SIL | DIL
  | R8L | R9L | R10L | R11L | R12L | R13L | R14L | R15L
  deriving DecidableEq, Repr

/-- `Register` (R37 to R44), by family and number; the sentinel `None` is the `none` of an `Option`. -/
inductive Register
  | r8  (r : Reg8)
  | r16 (n : BitVec 4)
  | r32 (n : BitVec 4)
  | r64 (n : BitVec 4)
  | seg (s : SegReg)
  | mm  (n : BitVec 3)
  | xmm (n : BitVec 5)
  | ymm (n : BitVec 5)
  | zmm (n : BitVec 5)
  | k   (n : BitVec 3)
  | EIP
  | RIP
  deriving DecidableEq, Repr

/-- `MemorySize` (R46): the members that the reference ROM uses, and `other`, a member that only another content of
`TEMPLATE_ROM` uses (R6, R23). -/
inductive MemorySize
  | UInt8 | UInt16 | UInt32 | UInt64 | Int32
  | Float32 | Float64
  | Packed32_Int8 | Packed32_Int16 | Packed64_Int8 | Packed64_Int16 | Packed64_Int32
  | Packed128_Int8 | Packed128_Int16 | Packed128_Int32 | Packed128_Int64 | Packed128_Float32 | Packed128_Float64
  | Packed256_Int8 | Packed256_Int16 | Packed256_Int32 | Packed256_Int64 | Packed256_Float32 | Packed256_Float64
  | Packed512_Int8 | Packed512_Int16 | Packed512_Int32 | Packed512_Int64 | Packed512_Float32 | Packed512_Float64
  | Broadcast128_Int32 | Broadcast256_Int32 | Broadcast512_Int32
  | Broadcast128_Float32 | Broadcast256_Float32 | Broadcast512_Float32
  | Broadcast128_Float64 | Broadcast256_Float64 | Broadcast512_Float64
  | Unknown | SegPtr16 | SegPtr32 | Bound16_WordWord | Bound32_DwordDword | Fxsave_512Byte | Fxsave64_512Byte
  | other (name : String)
  deriving DecidableEq, Repr

/-- An effective REX byte (R96, R162). -/
structure Rex where
  w : Bool
  r : Bool
  x : Bool
  b : Bool
  deriving DecidableEq, Repr

/-- What the prefixes of a Legacy encoding leave (R26, R90): the last of each class, and the effective REX byte. -/
structure LegacyPrefix where
  has66 : Bool
  has67 : Bool
  seg   : Option SegReg
  rep   : Option Rep
  lock  : Bool
  rex   : Option Rex
  deriving DecidableEq, Repr

/-- What the prefixes and the payload of a VEX encoding leave (R91, R97, R98); true (un-inverted) values (R102). The
row fixes `pp` and the map. -/
structure VexPrefix where
  has67 : Bool
  seg   : Option SegReg
  lock  : Bool
  w     : Bool
  r     : Bool
  x     : Bool
  b     : Bool
  vvvv  : BitVec 4
  l     : Bool
  deriving DecidableEq, Repr

/-- What the prefixes and the payload of an EVEX encoding leave (R92, R99 to R101); true values (R102). The row fixes
`pp` and the map. -/
structure EvexPrefix where
  has67 : Bool
  seg   : Option SegReg
  lock  : Bool
  w     : Bool
  r     : Bool
  x     : Bool
  b     : Bool
  rp    : Bool
  vp    : Bool
  vvvv  : BitVec 4
  ll    : BitVec 2
  z     : Bool
  bcst  : Bool
  aaa   : BitVec 3
  deriving DecidableEq, Repr

/-- The prefix part of any encoding, by encoding space. -/
inductive Prefix
  | legacy (p : LegacyPrefix)
  | vex    (p : VexPrefix)
  | evex   (p : EvexPrefix)
  deriving DecidableEq, Repr

/-- A SIB byte (R109). -/
structure Sib where
  ss  : BitVec 2
  idx : BitVec 3
  bs  : BitVec 3
  deriving DecidableEq, Repr

/-- The displacement field as it stands in the buffer (R110): 0, 1, 2 or 4 bytes. -/
inductive Disp
  | none
  | d8  (d : BitVec 8)
  | d16 (d : BitVec 16)
  | d32 (d : BitVec 32)
  deriving DecidableEq, Repr

/-- The ModRM byte (R108) with the SIB byte and the displacement that follow it. -/
structure ModRM where
  mod  : BitVec 2
  reg  : BitVec 3
  rm   : BitVec 3
  sib  : Option Sib
  disp : Disp
  deriving DecidableEq, Repr

/-- A direct address of `ASZ`/8 bytes (R111, R269). -/
inductive Moffs
  | a16 (a : BitVec 16)
  | a32 (a : BitVec 32)
  | a64 (a : BitVec 64)
  deriving DecidableEq, Repr

/-- Operand shapes (R31). -/
inductive Shape
  | reg    (c : RegClass)
  | rm     (c : RegClass)
  | mem
  | vvvv   (c : RegClass)
  | opreg  (c : RegClass)
  | fixed  (r : Register)
  | imm    (nbytes width : Nat) (sx : Bool)
  | rel    (nbytes width : Nat)
  | moffs
  deriving DecidableEq, Repr

/-- `Code` (R47): one member per row of the reference `TEMPLATE_ROM`, named as the spec names it. -/
inductive Code
  | Add_rm8_r8
  | Add_rm16_r16
  | Add_rm32_r32
  | Add_rm64_r64
  | Add_r8_rm8
  | Add_r16_rm16
  | Add_r32_rm32
  | Add_r64_rm64
  | Add_AL_imm8
  | Add_AX_imm16
  | Add_EAX_imm32
  | Add_RAX_imm32
  | Daa
  | Inc_r16
  | Inc_r32
  | Dec_r16
  | Dec_r32
  | Bound_r16_m1616
  | Bound_r32_m3232
  | Je_rel8_16
  | Je_rel8_32
  | Je_rel8_64
  | Add_rm8_imm8
  | Cmp_rm8_imm8
  | Add_rm16_imm16
  | Add_rm32_imm32
  | Add_rm64_imm32
  | Cmp_rm16_imm16
  | Cmp_rm32_imm32
  | Cmp_rm64_imm32
  | Add_rm16_imm8
  | Add_rm32_imm8
  | Add_rm64_imm8
  | Cmp_rm16_imm8
  | Cmp_rm32_imm8
  | Cmp_rm64_imm8
  | Mov_rm8_r8
  | Mov_rm16_r16
  | Mov_rm32_r32
  | Mov_rm64_r64
  | Mov_r8_rm8
  | Mov_r16_rm16
  | Mov_r32_rm32
  | Mov_r64_rm64
  | Lea_r16_m
  | Lea_r32_m
  | Lea_r64_m
  | Mov_AL_moffs8
  | Mov_AX_moffs16
  | Mov_EAX_moffs32
  | Mov_RAX_moffs64
  | Mov_moffs8_AL
  | Mov_moffs16_AX
  | Mov_moffs32_EAX
  | Mov_moffs64_RAX
  | Mov_r8_imm8
  | Mov_r16_imm16
  | Mov_r32_imm32
  | Mov_r64_imm64
  | Les_r16_m1616
  | Les_r32_m1632
  | Lds_r16_m1616
  | Lds_r32_m1632
  | Int3
  | Call_rel16
  | Call_rel32_32
  | Call_rel32_64
  | Jmp_rel16
  | Jmp_rel32_32
  | Jmp_rel32_64
  | Jmp_rel8_16
  | Jmp_rel8_32
  | Jmp_rel8_64
  | Hlt
  | Inc_rm8
  | Dec_rm8
  | Inc_rm16
  | Inc_rm32
  | Inc_rm64
  | Dec_rm16
  | Dec_rm32
  | Dec_rm64
  | Syscall
  | Addps_xmm_xmmm128
  | Addpd_xmm_xmmm128
  | Addss_xmm_xmmm32
  | Addsd_xmm_xmmm64
  | Punpcklbw_mm_mmm32
  | Punpcklbw_xmm_xmmm128
  | Punpcklwd_mm_mmm32
  | Punpcklwd_xmm_xmmm128
  | Punpckldq_mm_mmm32
  | Punpckldq_xmm_xmmm128
  | Packsswb_mm_mmm64
  | Packsswb_xmm_xmmm128
  | Pcmpgtb_mm_mmm64
  | Pcmpgtb_xmm_xmmm128
  | Pcmpgtw_mm_mmm64
  | Pcmpgtw_xmm_xmmm128
  | Pcmpgtd_mm_mmm64
  | Pcmpgtd_xmm_xmmm128
  | Packuswb_mm_mmm64
  | Packuswb_xmm_xmmm128
  | Movd_mm_rm32
  | Movq_mm_rm64
  | Movd_xmm_rm32
  | Movq_xmm_rm64
  | Je_rel16
  | Je_rel32_32
  | Je_rel32_64
  | Fxsave_m512byte
  | Fxsave64_m512byte
  | Fxrstor_m512byte
  | Fxrstor64_m512byte
  | Ldmxcsr_m32
  | Stmxcsr_m32
  | Clflush_m8
  | Lfence
  | Mfence
  | Sfence
  | VEX_Vaddps_xmm_xmm_xmmm128
  | VEX_Vaddps_ymm_ymm_ymmm256
  | VEX_Vaddpd_xmm_xmm_xmmm128
  | VEX_Vaddpd_ymm_ymm_ymmm256
  | VEX_Vaddss_xmm_xmm_xmmm32
  | VEX_Vaddsd_xmm_xmm_xmmm64
  | VEX_Vpunpcklbw_xmm_xmm_xmmm128
  | VEX_Vpunpcklbw_ymm_ymm_ymmm256
  | VEX_Vpunpcklwd_xmm_xmm_xmmm128
  | VEX_Vpunpcklwd_ymm_ymm_ymmm256
  | VEX_Vpunpckldq_xmm_xmm_xmmm128
  | VEX_Vpunpckldq_ymm_ymm_ymmm256
  | VEX_Vpacksswb_xmm_xmm_xmmm128
  | VEX_Vpacksswb_ymm_ymm_ymmm256
  | VEX_Vpcmpgtb_xmm_xmm_xmmm128
  | VEX_Vpcmpgtb_ymm_ymm_ymmm256
  | VEX_Vpcmpgtw_xmm_xmm_xmmm128
  | VEX_Vpcmpgtw_ymm_ymm_ymmm256
  | VEX_Vpcmpgtd_xmm_xmm_xmmm128
  | VEX_Vpcmpgtd_ymm_ymm_ymmm256
  | VEX_Vpackuswb_xmm_xmm_xmmm128
  | VEX_Vpackuswb_ymm_ymm_ymmm256
  | EVEX_Vaddps_xmm_k1z_xmm_xmmm128b32
  | EVEX_Vaddps_ymm_k1z_ymm_ymmm256b32
  | EVEX_Vaddps_zmm_k1z_zmm_zmmm512b32_er
  | EVEX_Vaddpd_xmm_k1z_xmm_xmmm128b64
  | EVEX_Vaddpd_ymm_k1z_ymm_ymmm256b64
  | EVEX_Vaddpd_zmm_k1z_zmm_zmmm512b64_er
  | EVEX_Vaddss_xmm_k1z_xmm_xmmm32_er
  | EVEX_Vaddsd_xmm_k1z_xmm_xmmm64_er
  | EVEX_Vmaxps_xmm_k1z_xmm_xmmm128b32
  | EVEX_Vmaxps_ymm_k1z_ymm_ymmm256b32
  | EVEX_Vmaxps_zmm_k1z_zmm_zmmm512b32_sae
  | EVEX_Vpunpcklbw_xmm_k1z_xmm_xmmm128
  | EVEX_Vpunpcklbw_ymm_k1z_ymm_ymmm256
  | EVEX_Vpunpcklbw_zmm_k1z_zmm_zmmm512
  | EVEX_Vpunpcklwd_xmm_k1z_xmm_xmmm128
  | EVEX_Vpunpcklwd_ymm_k1z_ymm_ymmm256
  | EVEX_Vpunpcklwd_zmm_k1z_zmm_zmmm512
  | EVEX_Vpunpckldq_xmm_k1z_xmm_xmmm128b32
  | EVEX_Vpunpckldq_ymm_k1z_ymm_ymmm256b32
  | EVEX_Vpunpckldq_zmm_k1z_zmm_zmmm512b32
  | EVEX_Vpacksswb_xmm_k1z_xmm_xmmm128
  | EVEX_Vpacksswb_ymm_k1z_ymm_ymmm256
  | EVEX_Vpacksswb_zmm_k1z_zmm_zmmm512
  | EVEX_Vpcmpgtb_k_k1_xmm_xmmm128
  | EVEX_Vpcmpgtb_k_k1_ymm_ymmm256
  | EVEX_Vpcmpgtb_k_k1_zmm_zmmm512
  | EVEX_Vpcmpgtw_k_k1_xmm_xmmm128
  | EVEX_Vpcmpgtw_k_k1_ymm_ymmm256
  | EVEX_Vpcmpgtw_k_k1_zmm_zmmm512
  | EVEX_Vpcmpgtd_k_k1_xmm_xmmm128b32
  | EVEX_Vpcmpgtd_k_k1_ymm_ymmm256b32
  | EVEX_Vpcmpgtd_k_k1_zmm_zmmm512b32
  | EVEX_Vpackuswb_xmm_k1z_xmm_xmmm128
  | EVEX_Vpackuswb_ymm_k1z_ymm_ymmm256
  | EVEX_Vpackuswb_zmm_k1z_zmm_zmmm512
  | EVEX_Vmovdqa32_xmm_k1z_xmmm128
  | EVEX_Vmovdqa32_ymm_k1z_ymmm256
  | EVEX_Vmovdqa32_zmm_k1z_zmmm512
  | EVEX_Vmovdqa64_xmm_k1z_xmmm128
  | EVEX_Vmovdqa64_ymm_k1z_ymmm256
  | EVEX_Vmovdqa64_zmm_k1z_zmmm512
  deriving DecidableEq, Repr

/-- The code of a row of any `TEMPLATE_ROM` (R6, R23, R47): a member that the reference content has, or the name of a member
that only another content has. -/
inductive RowCode
  | ref   (c : Code)
  | other (name : String)
  deriving DecidableEq, Repr

/-- A template row (R30). `none` in a key field is the spec's `any` (`ANY` for `mp`). -/
structure Row where
  code     : RowCode
  space    : Space
  map      : OpMap
  op       : Byte
  opmask   : Byte
  mp       : Option MandPfx
  osz      : Option OpSize
  w        : Option Bool
  l        : Option VecLen
  reg      : Option (BitVec 3)
  mod      : Option ModClass
  bitness  : List Bitness
  hasModrm : Bool
  ops      : List Shape
  lockable : Bool
  mem      : Option MemorySize
  memB     : Option MemorySize
  k        : Bool
  zeroing  : Bool
  bcst     : Nat
  ersae    : ErSae
  n        : Nat
  deriving DecidableEq, Repr

/-- The content of `TEMPLATE_ROM`, a parameter of the block (R6, R23, R371): the reference content (R113 to R116), or the
rows of another. -/
inductive Rom
  | reference
  | other (rows : List Row)
  deriving DecidableEq, Repr

/-- The parameters of R6 that are not constants of this model. No step changes them. -/
structure Params where
  legacyBeforeEscape : LegacyBeforeEscape
  extBitsNon64       : ExtBitsNon64
  /-- `P_ER_SETS_SAE` (R294). -/
  erSetsSae          : Bool
  branch66In64       : Branch66In64
  /-- `TEMPLATE_ROM`. -/
  rom                : Rom
  deriving DecidableEq, Repr

/-- The reference values of R6. -/
def Params.reference : Params :=
  { legacyBeforeEscape := .fail, extBitsNon64 := .fail, erSetsSae := true, branch66In64 := .ignore66, rom := .reference }

/-- The instructions: one constructor for each row of spec/opcode_table.json, in its order. Each carries the fields of
its encoding: the prefix part `p`, the register number `low` in the opcode byte (R107), the ModRM part `m`, and the
trailing immediate `imm`, relative displacement `rel` or direct address `a` (R111). -/
inductive Instr
  /-- R400: `00 /r`. -/
  | add_rm8_r8 (p : LegacyPrefix) (m : ModRM)
  /-- R401: `o16 01 /r`. -/
  | add_rm16_r16 (p : LegacyPrefix) (m : ModRM)
  /-- R402: `o32 01 /r`. -/
  | add_rm32_r32 (p : LegacyPrefix) (m : ModRM)
  /-- R403: `o64 01 /r`. -/
  | add_rm64_r64 (p : LegacyPrefix) (m : ModRM)
  /-- R404: `02 /r`. -/
  | add_r8_rm8 (p : LegacyPrefix) (m : ModRM)
  /-- R405: `o16 03 /r`. -/
  | add_r16_rm16 (p : LegacyPrefix) (m : ModRM)
  /-- R406: `o32 03 /r`. -/
  | add_r32_rm32 (p : LegacyPrefix) (m : ModRM)
  /-- R407: `o64 03 /r`. -/
  | add_r64_rm64 (p : LegacyPrefix) (m : ModRM)
  /-- R408: `04 ib`. -/
  | add_AL_imm8 (p : LegacyPrefix) (imm : BitVec 8)
  /-- R409: `o16 05 iw`. -/
  | add_AX_imm16 (p : LegacyPrefix) (imm : BitVec 16)
  /-- R410: `o32 05 id`. -/
  | add_EAX_imm32 (p : LegacyPrefix) (imm : BitVec 32)
  /-- R411: `o64 05 id`. -/
  | add_RAX_imm32 (p : LegacyPrefix) (imm : BitVec 32)
  /-- R412: `27`. -/
  | daa (p : LegacyPrefix)
  /-- R413: `o16 40+r`. -/
  | inc_r16 (p : LegacyPrefix) (low : BitVec 3)
  /-- R414: `o32 40+r`. -/
  | inc_r32 (p : LegacyPrefix) (low : BitVec 3)
  /-- R415: `o16 48+r`. -/
  | dec_r16 (p : LegacyPrefix) (low : BitVec 3)
  /-- R416: `o32 48+r`. -/
  | dec_r32 (p : LegacyPrefix) (low : BitVec 3)
  /-- R417: `o16 62 /r (mem)`. -/
  | bound_r16_m1616 (p : LegacyPrefix) (m : ModRM)
  /-- R418: `o32 62 /r (mem)`. -/
  | bound_r32_m3232 (p : LegacyPrefix) (m : ModRM)
  /-- R419: `o16 74 cb`. -/
  | je_rel8_16 (p : LegacyPrefix) (rel : BitVec 8)
  /-- R420: `o32 74 cb`. -/
  | je_rel8_32 (p : LegacyPrefix) (rel : BitVec 8)
  /-- R421: `74 cb`. -/
  | je_rel8_64 (p : LegacyPrefix) (rel : BitVec 8)
  /-- R422: `80 /0 ib`. -/
  | add_rm8_imm8 (p : LegacyPrefix) (m : ModRM) (imm : BitVec 8)
  /-- R423: `80 /7 ib`. -/
  | cmp_rm8_imm8 (p : LegacyPrefix) (m : ModRM) (imm : BitVec 8)
  /-- R424: `o16 81 /0 iw`. -/
  | add_rm16_imm16 (p : LegacyPrefix) (m : ModRM) (imm : BitVec 16)
  /-- R425: `o32 81 /0 id`. -/
  | add_rm32_imm32 (p : LegacyPrefix) (m : ModRM) (imm : BitVec 32)
  /-- R426: `o64 81 /0 id`. -/
  | add_rm64_imm32 (p : LegacyPrefix) (m : ModRM) (imm : BitVec 32)
  /-- R427: `o16 81 /7 iw`. -/
  | cmp_rm16_imm16 (p : LegacyPrefix) (m : ModRM) (imm : BitVec 16)
  /-- R428: `o32 81 /7 id`. -/
  | cmp_rm32_imm32 (p : LegacyPrefix) (m : ModRM) (imm : BitVec 32)
  /-- R429: `o64 81 /7 id`. -/
  | cmp_rm64_imm32 (p : LegacyPrefix) (m : ModRM) (imm : BitVec 32)
  /-- R430: `o16 83 /0 ib`. -/
  | add_rm16_imm8 (p : LegacyPrefix) (m : ModRM) (imm : BitVec 8)
  /-- R431: `o32 83 /0 ib`. -/
  | add_rm32_imm8 (p : LegacyPrefix) (m : ModRM) (imm : BitVec 8)
  /-- R432: `o64 83 /0 ib`. -/
  | add_rm64_imm8 (p : LegacyPrefix) (m : ModRM) (imm : BitVec 8)
  /-- R433: `o16 83 /7 ib`. -/
  | cmp_rm16_imm8 (p : LegacyPrefix) (m : ModRM) (imm : BitVec 8)
  /-- R434: `o32 83 /7 ib`. -/
  | cmp_rm32_imm8 (p : LegacyPrefix) (m : ModRM) (imm : BitVec 8)
  /-- R435: `o64 83 /7 ib`. -/
  | cmp_rm64_imm8 (p : LegacyPrefix) (m : ModRM) (imm : BitVec 8)
  /-- R436: `88 /r`. -/
  | mov_rm8_r8 (p : LegacyPrefix) (m : ModRM)
  /-- R437: `o16 89 /r`. -/
  | mov_rm16_r16 (p : LegacyPrefix) (m : ModRM)
  /-- R438: `o32 89 /r`. -/
  | mov_rm32_r32 (p : LegacyPrefix) (m : ModRM)
  /-- R439: `o64 89 /r`. -/
  | mov_rm64_r64 (p : LegacyPrefix) (m : ModRM)
  /-- R440: `8A /r`. -/
  | mov_r8_rm8 (p : LegacyPrefix) (m : ModRM)
  /-- R441: `o16 8B /r`. -/
  | mov_r16_rm16 (p : LegacyPrefix) (m : ModRM)
  /-- R442: `o32 8B /r`. -/
  | mov_r32_rm32 (p : LegacyPrefix) (m : ModRM)
  /-- R443: `o64 8B /r`. -/
  | mov_r64_rm64 (p : LegacyPrefix) (m : ModRM)
  /-- R444: `o16 8D /r (mem)`. -/
  | lea_r16_m (p : LegacyPrefix) (m : ModRM)
  /-- R445: `o32 8D /r (mem)`. -/
  | lea_r32_m (p : LegacyPrefix) (m : ModRM)
  /-- R446: `o64 8D /r (mem)`. -/
  | lea_r64_m (p : LegacyPrefix) (m : ModRM)
  /-- R447: `A0 moffs`. -/
  | mov_AL_moffs8 (p : LegacyPrefix) (a : Moffs)
  /-- R448: `o16 A1 moffs`. -/
  | mov_AX_moffs16 (p : LegacyPrefix) (a : Moffs)
  /-- R449: `o32 A1 moffs`. -/
  | mov_EAX_moffs32 (p : LegacyPrefix) (a : Moffs)
  /-- R450: `o64 A1 moffs`. -/
  | mov_RAX_moffs64 (p : LegacyPrefix) (a : Moffs)
  /-- R451: `A2 moffs`. -/
  | mov_moffs8_AL (p : LegacyPrefix) (a : Moffs)
  /-- R452: `o16 A3 moffs`. -/
  | mov_moffs16_AX (p : LegacyPrefix) (a : Moffs)
  /-- R453: `o32 A3 moffs`. -/
  | mov_moffs32_EAX (p : LegacyPrefix) (a : Moffs)
  /-- R454: `o64 A3 moffs`. -/
  | mov_moffs64_RAX (p : LegacyPrefix) (a : Moffs)
  /-- R455: `B0+r ib`. -/
  | mov_r8_imm8 (p : LegacyPrefix) (low : BitVec 3) (imm : BitVec 8)
  /-- R456: `o16 B8+r iw`. -/
  | mov_r16_imm16 (p : LegacyPrefix) (low : BitVec 3) (imm : BitVec 16)
  /-- R457: `o32 B8+r id`. -/
  | mov_r32_imm32 (p : LegacyPrefix) (low : BitVec 3) (imm : BitVec 32)
  /-- R458: `o64 B8+r io`. -/
  | mov_r64_imm64 (p : LegacyPrefix) (low : BitVec 3) (imm : BitVec 64)
  /-- R459: `o16 C4 /r (mem)`. -/
  | les_r16_m1616 (p : LegacyPrefix) (m : ModRM)
  /-- R460: `o32 C4 /r (mem)`. -/
  | les_r32_m1632 (p : LegacyPrefix) (m : ModRM)
  /-- R461: `o16 C5 /r (mem)`. -/
  | lds_r16_m1616 (p : LegacyPrefix) (m : ModRM)
  /-- R462: `o32 C5 /r (mem)`. -/
  | lds_r32_m1632 (p : LegacyPrefix) (m : ModRM)
  /-- R463: `CC`. -/
  | int3 (p : LegacyPrefix)
  /-- R464: `o16 E8 cw`. -/
  | call_rel16 (p : LegacyPrefix) (rel : BitVec 16)
  /-- R465: `o32 E8 cd`. -/
  | call_rel32_32 (p : LegacyPrefix) (rel : BitVec 32)
  /-- R466: `E8 cd`. -/
  | call_rel32_64 (p : LegacyPrefix) (rel : BitVec 32)
  /-- R467: `o16 E9 cw`. -/
  | jmp_rel16 (p : LegacyPrefix) (rel : BitVec 16)
  /-- R468: `o32 E9 cd`. -/
  | jmp_rel32_32 (p : LegacyPrefix) (rel : BitVec 32)
  /-- R469: `E9 cd`. -/
  | jmp_rel32_64 (p : LegacyPrefix) (rel : BitVec 32)
  /-- R470: `o16 EB cb`. -/
  | jmp_rel8_16 (p : LegacyPrefix) (rel : BitVec 8)
  /-- R471: `o32 EB cb`. -/
  | jmp_rel8_32 (p : LegacyPrefix) (rel : BitVec 8)
  /-- R472: `EB cb`. -/
  | jmp_rel8_64 (p : LegacyPrefix) (rel : BitVec 8)
  /-- R473: `F4`. -/
  | hlt (p : LegacyPrefix)
  /-- R474: `FE /0`. -/
  | inc_rm8 (p : LegacyPrefix) (m : ModRM)
  /-- R475: `FE /1`. -/
  | dec_rm8 (p : LegacyPrefix) (m : ModRM)
  /-- R476: `o16 FF /0`. -/
  | inc_rm16 (p : LegacyPrefix) (m : ModRM)
  /-- R477: `o32 FF /0`. -/
  | inc_rm32 (p : LegacyPrefix) (m : ModRM)
  /-- R478: `o64 FF /0`. -/
  | inc_rm64 (p : LegacyPrefix) (m : ModRM)
  /-- R479: `o16 FF /1`. -/
  | dec_rm16 (p : LegacyPrefix) (m : ModRM)
  /-- R480: `o32 FF /1`. -/
  | dec_rm32 (p : LegacyPrefix) (m : ModRM)
  /-- R481: `o64 FF /1`. -/
  | dec_rm64 (p : LegacyPrefix) (m : ModRM)
  /-- R482: `0F 05`. -/
  | syscall (p : LegacyPrefix)
  /-- R483: `NP 0F 58 /r`. -/
  | addps_xmm_xmmm128 (p : LegacyPrefix) (m : ModRM)
  /-- R484: `66 0F 58 /r`. -/
  | addpd_xmm_xmmm128 (p : LegacyPrefix) (m : ModRM)
  /-- R485: `F3 0F 58 /r`. -/
  | addss_xmm_xmmm32 (p : LegacyPrefix) (m : ModRM)
  /-- R486: `F2 0F 58 /r`. -/
  | addsd_xmm_xmmm64 (p : LegacyPrefix) (m : ModRM)
  /-- R487: `NP 0F 60 /r`. -/
  | punpcklbw_mm_mmm32 (p : LegacyPrefix) (m : ModRM)
  /-- R488: `66 0F 60 /r`. -/
  | punpcklbw_xmm_xmmm128 (p : LegacyPrefix) (m : ModRM)
  /-- R489: `NP 0F 61 /r`. -/
  | punpcklwd_mm_mmm32 (p : LegacyPrefix) (m : ModRM)
  /-- R490: `66 0F 61 /r`. -/
  | punpcklwd_xmm_xmmm128 (p : LegacyPrefix) (m : ModRM)
  /-- R491: `NP 0F 62 /r`. -/
  | punpckldq_mm_mmm32 (p : LegacyPrefix) (m : ModRM)
  /-- R492: `66 0F 62 /r`. -/
  | punpckldq_xmm_xmmm128 (p : LegacyPrefix) (m : ModRM)
  /-- R493: `NP 0F 63 /r`. -/
  | packsswb_mm_mmm64 (p : LegacyPrefix) (m : ModRM)
  /-- R494: `66 0F 63 /r`. -/
  | packsswb_xmm_xmmm128 (p : LegacyPrefix) (m : ModRM)
  /-- R495: `NP 0F 64 /r`. -/
  | pcmpgtb_mm_mmm64 (p : LegacyPrefix) (m : ModRM)
  /-- R496: `66 0F 64 /r`. -/
  | pcmpgtb_xmm_xmmm128 (p : LegacyPrefix) (m : ModRM)
  /-- R497: `NP 0F 65 /r`. -/
  | pcmpgtw_mm_mmm64 (p : LegacyPrefix) (m : ModRM)
  /-- R498: `66 0F 65 /r`. -/
  | pcmpgtw_xmm_xmmm128 (p : LegacyPrefix) (m : ModRM)
  /-- R499: `NP 0F 66 /r`. -/
  | pcmpgtd_mm_mmm64 (p : LegacyPrefix) (m : ModRM)
  /-- R500: `66 0F 66 /r`. -/
  | pcmpgtd_xmm_xmmm128 (p : LegacyPrefix) (m : ModRM)
  /-- R501: `NP 0F 67 /r`. -/
  | packuswb_mm_mmm64 (p : LegacyPrefix) (m : ModRM)
  /-- R502: `66 0F 67 /r`. -/
  | packuswb_xmm_xmmm128 (p : LegacyPrefix) (m : ModRM)
  /-- R503: `NP W0 0F 6E /r`. -/
  | movd_mm_rm32 (p : LegacyPrefix) (m : ModRM)
  /-- R504: `NP W1 0F 6E /r`. -/
  | movq_mm_rm64 (p : LegacyPrefix) (m : ModRM)
  /-- R505: `66 W0 0F 6E /r`. -/
  | movd_xmm_rm32 (p : LegacyPrefix) (m : ModRM)
  /-- R506: `66 W1 0F 6E /r`. -/
  | movq_xmm_rm64 (p : LegacyPrefix) (m : ModRM)
  /-- R507: `o16 0F 84 cw`. -/
  | je_rel16 (p : LegacyPrefix) (rel : BitVec 16)
  /-- R508: `o32 0F 84 cd`. -/
  | je_rel32_32 (p : LegacyPrefix) (rel : BitVec 32)
  /-- R509: `0F 84 cd`. -/
  | je_rel32_64 (p : LegacyPrefix) (rel : BitVec 32)
  /-- R510: `NP W0 0F AE /0 (mem)`. -/
  | fxsave_m512byte (p : LegacyPrefix) (m : ModRM)
  /-- R511: `NP W1 0F AE /0 (mem)`. -/
  | fxsave64_m512byte (p : LegacyPrefix) (m : ModRM)
  /-- R512: `NP W0 0F AE /1 (mem)`. -/
  | fxrstor_m512byte (p : LegacyPrefix) (m : ModRM)
  /-- R513: `NP W1 0F AE /1 (mem)`. -/
  | fxrstor64_m512byte (p : LegacyPrefix) (m : ModRM)
  /-- R514: `NP 0F AE /2 (mem)`. -/
  | ldmxcsr_m32 (p : LegacyPrefix) (m : ModRM)
  /-- R515: `NP 0F AE /3 (mem)`. -/
  | stmxcsr_m32 (p : LegacyPrefix) (m : ModRM)
  /-- R516: `NP 0F AE /7 (mem)`. -/
  | clflush_m8 (p : LegacyPrefix) (m : ModRM)
  /-- R517: `NP 0F AE /5 (reg)`. -/
  | lfence (p : LegacyPrefix) (m : ModRM)
  /-- R518: `NP 0F AE /6 (reg)`. -/
  | mfence (p : LegacyPrefix) (m : ModRM)
  /-- R519: `NP 0F AE /7 (reg)`. -/
  | sfence (p : LegacyPrefix) (m : ModRM)
  /-- R520: `VEX.128.NP.0F.WIG 58 /r`. -/
  | vex_vaddps_xmm_xmm_xmmm128 (p : VexPrefix) (m : ModRM)
  /-- R521: `VEX.256.NP.0F.WIG 58 /r`. -/
  | vex_vaddps_ymm_ymm_ymmm256 (p : VexPrefix) (m : ModRM)
  /-- R522: `VEX.128.66.0F.WIG 58 /r`. -/
  | vex_vaddpd_xmm_xmm_xmmm128 (p : VexPrefix) (m : ModRM)
  /-- R523: `VEX.256.66.0F.WIG 58 /r`. -/
  | vex_vaddpd_ymm_ymm_ymmm256 (p : VexPrefix) (m : ModRM)
  /-- R524: `VEX.LIG.F3.0F.WIG 58 /r`. -/
  | vex_vaddss_xmm_xmm_xmmm32 (p : VexPrefix) (m : ModRM)
  /-- R525: `VEX.LIG.F2.0F.WIG 58 /r`. -/
  | vex_vaddsd_xmm_xmm_xmmm64 (p : VexPrefix) (m : ModRM)
  /-- R526: `VEX.128.66.0F.WIG 60 /r`. -/
  | vex_vpunpcklbw_xmm_xmm_xmmm128 (p : VexPrefix) (m : ModRM)
  /-- R527: `VEX.256.66.0F.WIG 60 /r`. -/
  | vex_vpunpcklbw_ymm_ymm_ymmm256 (p : VexPrefix) (m : ModRM)
  /-- R528: `VEX.128.66.0F.WIG 61 /r`. -/
  | vex_vpunpcklwd_xmm_xmm_xmmm128 (p : VexPrefix) (m : ModRM)
  /-- R529: `VEX.256.66.0F.WIG 61 /r`. -/
  | vex_vpunpcklwd_ymm_ymm_ymmm256 (p : VexPrefix) (m : ModRM)
  /-- R530: `VEX.128.66.0F.WIG 62 /r`. -/
  | vex_vpunpckldq_xmm_xmm_xmmm128 (p : VexPrefix) (m : ModRM)
  /-- R531: `VEX.256.66.0F.WIG 62 /r`. -/
  | vex_vpunpckldq_ymm_ymm_ymmm256 (p : VexPrefix) (m : ModRM)
  /-- R532: `VEX.128.66.0F.WIG 63 /r`. -/
  | vex_vpacksswb_xmm_xmm_xmmm128 (p : VexPrefix) (m : ModRM)
  /-- R533: `VEX.256.66.0F.WIG 63 /r`. -/
  | vex_vpacksswb_ymm_ymm_ymmm256 (p : VexPrefix) (m : ModRM)
  /-- R534: `VEX.128.66.0F.WIG 64 /r`. -/
  | vex_vpcmpgtb_xmm_xmm_xmmm128 (p : VexPrefix) (m : ModRM)
  /-- R535: `VEX.256.66.0F.WIG 64 /r`. -/
  | vex_vpcmpgtb_ymm_ymm_ymmm256 (p : VexPrefix) (m : ModRM)
  /-- R536: `VEX.128.66.0F.WIG 65 /r`. -/
  | vex_vpcmpgtw_xmm_xmm_xmmm128 (p : VexPrefix) (m : ModRM)
  /-- R537: `VEX.256.66.0F.WIG 65 /r`. -/
  | vex_vpcmpgtw_ymm_ymm_ymmm256 (p : VexPrefix) (m : ModRM)
  /-- R538: `VEX.128.66.0F.WIG 66 /r`. -/
  | vex_vpcmpgtd_xmm_xmm_xmmm128 (p : VexPrefix) (m : ModRM)
  /-- R539: `VEX.256.66.0F.WIG 66 /r`. -/
  | vex_vpcmpgtd_ymm_ymm_ymmm256 (p : VexPrefix) (m : ModRM)
  /-- R540: `VEX.128.66.0F.WIG 67 /r`. -/
  | vex_vpackuswb_xmm_xmm_xmmm128 (p : VexPrefix) (m : ModRM)
  /-- R541: `VEX.256.66.0F.WIG 67 /r`. -/
  | vex_vpackuswb_ymm_ymm_ymmm256 (p : VexPrefix) (m : ModRM)
  /-- R542: `EVEX.128.NP.0F.W0 58 /r`. -/
  | evex_vaddps_xmm_k1z_xmm_xmmm128b32 (p : EvexPrefix) (m : ModRM)
  /-- R543: `EVEX.256.NP.0F.W0 58 /r`. -/
  | evex_vaddps_ymm_k1z_ymm_ymmm256b32 (p : EvexPrefix) (m : ModRM)
  /-- R544: `EVEX.512.NP.0F.W0 58 /r`. -/
  | evex_vaddps_zmm_k1z_zmm_zmmm512b32_er (p : EvexPrefix) (m : ModRM)
  /-- R545: `EVEX.128.66.0F.W1 58 /r`. -/
  | evex_vaddpd_xmm_k1z_xmm_xmmm128b64 (p : EvexPrefix) (m : ModRM)
  /-- R546: `EVEX.256.66.0F.W1 58 /r`. -/
  | evex_vaddpd_ymm_k1z_ymm_ymmm256b64 (p : EvexPrefix) (m : ModRM)
  /-- R547: `EVEX.512.66.0F.W1 58 /r`. -/
  | evex_vaddpd_zmm_k1z_zmm_zmmm512b64_er (p : EvexPrefix) (m : ModRM)
  /-- R548: `EVEX.LIG.F3.0F.W0 58 /r`. -/
  | evex_vaddss_xmm_k1z_xmm_xmmm32_er (p : EvexPrefix) (m : ModRM)
  /-- R549: `EVEX.LIG.F2.0F.W1 58 /r`. -/
  | evex_vaddsd_xmm_k1z_xmm_xmmm64_er (p : EvexPrefix) (m : ModRM)
  /-- R550: `EVEX.128.NP.0F.W0 5F /r`. -/
  | evex_vmaxps_xmm_k1z_xmm_xmmm128b32 (p : EvexPrefix) (m : ModRM)
  /-- R551: `EVEX.256.NP.0F.W0 5F /r`. -/
  | evex_vmaxps_ymm_k1z_ymm_ymmm256b32 (p : EvexPrefix) (m : ModRM)
  /-- R552: `EVEX.512.NP.0F.W0 5F /r`. -/
  | evex_vmaxps_zmm_k1z_zmm_zmmm512b32_sae (p : EvexPrefix) (m : ModRM)
  /-- R553: `EVEX.128.66.0F.WIG 60 /r`. -/
  | evex_vpunpcklbw_xmm_k1z_xmm_xmmm128 (p : EvexPrefix) (m : ModRM)
  /-- R554: `EVEX.256.66.0F.WIG 60 /r`. -/
  | evex_vpunpcklbw_ymm_k1z_ymm_ymmm256 (p : EvexPrefix) (m : ModRM)
  /-- R555: `EVEX.512.66.0F.WIG 60 /r`. -/
  | evex_vpunpcklbw_zmm_k1z_zmm_zmmm512 (p : EvexPrefix) (m : ModRM)
  /-- R556: `EVEX.128.66.0F.WIG 61 /r`. -/
  | evex_vpunpcklwd_xmm_k1z_xmm_xmmm128 (p : EvexPrefix) (m : ModRM)
  /-- R557: `EVEX.256.66.0F.WIG 61 /r`. -/
  | evex_vpunpcklwd_ymm_k1z_ymm_ymmm256 (p : EvexPrefix) (m : ModRM)
  /-- R558: `EVEX.512.66.0F.WIG 61 /r`. -/
  | evex_vpunpcklwd_zmm_k1z_zmm_zmmm512 (p : EvexPrefix) (m : ModRM)
  /-- R559: `EVEX.128.66.0F.W0 62 /r`. -/
  | evex_vpunpckldq_xmm_k1z_xmm_xmmm128b32 (p : EvexPrefix) (m : ModRM)
  /-- R560: `EVEX.256.66.0F.W0 62 /r`. -/
  | evex_vpunpckldq_ymm_k1z_ymm_ymmm256b32 (p : EvexPrefix) (m : ModRM)
  /-- R561: `EVEX.512.66.0F.W0 62 /r`. -/
  | evex_vpunpckldq_zmm_k1z_zmm_zmmm512b32 (p : EvexPrefix) (m : ModRM)
  /-- R562: `EVEX.128.66.0F.WIG 63 /r`. -/
  | evex_vpacksswb_xmm_k1z_xmm_xmmm128 (p : EvexPrefix) (m : ModRM)
  /-- R563: `EVEX.256.66.0F.WIG 63 /r`. -/
  | evex_vpacksswb_ymm_k1z_ymm_ymmm256 (p : EvexPrefix) (m : ModRM)
  /-- R564: `EVEX.512.66.0F.WIG 63 /r`. -/
  | evex_vpacksswb_zmm_k1z_zmm_zmmm512 (p : EvexPrefix) (m : ModRM)
  /-- R565: `EVEX.128.66.0F.WIG 64 /r`. -/
  | evex_vpcmpgtb_k_k1_xmm_xmmm128 (p : EvexPrefix) (m : ModRM)
  /-- R566: `EVEX.256.66.0F.WIG 64 /r`. -/
  | evex_vpcmpgtb_k_k1_ymm_ymmm256 (p : EvexPrefix) (m : ModRM)
  /-- R567: `EVEX.512.66.0F.WIG 64 /r`. -/
  | evex_vpcmpgtb_k_k1_zmm_zmmm512 (p : EvexPrefix) (m : ModRM)
  /-- R568: `EVEX.128.66.0F.WIG 65 /r`. -/
  | evex_vpcmpgtw_k_k1_xmm_xmmm128 (p : EvexPrefix) (m : ModRM)
  /-- R569: `EVEX.256.66.0F.WIG 65 /r`. -/
  | evex_vpcmpgtw_k_k1_ymm_ymmm256 (p : EvexPrefix) (m : ModRM)
  /-- R570: `EVEX.512.66.0F.WIG 65 /r`. -/
  | evex_vpcmpgtw_k_k1_zmm_zmmm512 (p : EvexPrefix) (m : ModRM)
  /-- R571: `EVEX.128.66.0F.W0 66 /r`. -/
  | evex_vpcmpgtd_k_k1_xmm_xmmm128b32 (p : EvexPrefix) (m : ModRM)
  /-- R572: `EVEX.256.66.0F.W0 66 /r`. -/
  | evex_vpcmpgtd_k_k1_ymm_ymmm256b32 (p : EvexPrefix) (m : ModRM)
  /-- R573: `EVEX.512.66.0F.W0 66 /r`. -/
  | evex_vpcmpgtd_k_k1_zmm_zmmm512b32 (p : EvexPrefix) (m : ModRM)
  /-- R574: `EVEX.128.66.0F.WIG 67 /r`. -/
  | evex_vpackuswb_xmm_k1z_xmm_xmmm128 (p : EvexPrefix) (m : ModRM)
  /-- R575: `EVEX.256.66.0F.WIG 67 /r`. -/
  | evex_vpackuswb_ymm_k1z_ymm_ymmm256 (p : EvexPrefix) (m : ModRM)
  /-- R576: `EVEX.512.66.0F.WIG 67 /r`. -/
  | evex_vpackuswb_zmm_k1z_zmm_zmmm512 (p : EvexPrefix) (m : ModRM)
  /-- R577: `EVEX.128.66.0F.W0 6F /r`. -/
  | evex_vmovdqa32_xmm_k1z_xmmm128 (p : EvexPrefix) (m : ModRM)
  /-- R578: `EVEX.256.66.0F.W0 6F /r`. -/
  | evex_vmovdqa32_ymm_k1z_ymmm256 (p : EvexPrefix) (m : ModRM)
  /-- R579: `EVEX.512.66.0F.W0 6F /r`. -/
  | evex_vmovdqa32_zmm_k1z_zmmm512 (p : EvexPrefix) (m : ModRM)
  /-- R580: `EVEX.128.66.0F.W1 6F /r`. -/
  | evex_vmovdqa64_xmm_k1z_xmmm128 (p : EvexPrefix) (m : ModRM)
  /-- R581: `EVEX.256.66.0F.W1 6F /r`. -/
  | evex_vmovdqa64_ymm_k1z_ymmm256 (p : EvexPrefix) (m : ModRM)
  /-- R582: `EVEX.512.66.0F.W1 6F /r`. -/
  | evex_vmovdqa64_zmm_k1z_zmmm512 (p : EvexPrefix) (m : ModRM)
  deriving DecidableEq, Repr

end Sys2Proof
end

