-- ==== Sys2Proof/Machine/State.lean ====
section
/-! DEFINITION. The state of the block as plain data (spec 10_state.md): the parameters, the request port, the transaction
in progress with its transient working state, and the response port; and the state after reset (R50, R370). -/

namespace Sys2Proof.Machine

/-- The prefix-state record `PS` (R26). -/
structure PrefixState where
  has66       : Bool
  has67       : Bool
  seg         : Option SegReg
  rep         : Option Rep
  lock        : Bool
  rexPresent  : Bool
  w           : Bool
  r           : Bool
  x           : Bool
  b           : Bool
  rp          : Bool
  vp          : Bool
  vvvv        : BitVec 4
  ll          : BitVec 2
  z           : Bool
  bcst        : Bool
  aaa         : BitVec 3
  pp          : BitVec 2
  space       : Space
  map         : OpMap
  mp          : MandPfx
  prefixCount : Nat
  deriving DecidableEq, Repr

/-- `PS` at the start of every transaction (R26, R50). -/
def PrefixState.initial : PrefixState :=
  { has66 := false, has67 := false, seg := none, rep := none, lock := false, rexPresent := false, w := false, r := false,
    x := false, b := false, rp := false, vp := false, vvvv := 0, ll := 0, z := false, bcst := false, aaa := 0, pp := 0,
    space := .legacy, map := .m1B, mp := .NP, prefixCount := 0 }

/-- The memory descriptor `MEM` (R35, R238), before `memory_size` is filled. `addrSize` is `ASZ`, the width of `disp`. -/
structure MemDesc where
  segment  : SegReg
  base     : Option Register
  index    : Option Register
  scale    : Nat
  /-- Displacement value, unsigned, `ASZ` bits (R234). -/
  disp     : Nat
  /-- Bytes of displacement read: 0, 1, 2, 4 or 8. -/
  dispSize : Nat
  addrSize : AddrSize
  deriving DecidableEq, Repr

/-- Operands (R34): the five kinds with their payloads. -/
inductive Operand
  | none
  | register (r : Register)
  | memory (m : MemDesc) (size : MemorySize)
  | immediate (value width encSize : Nat)
  | nearBranch (rel : Int) (width encSize target : Nat)
  deriving DecidableEq, Repr

/-- The vector-extension fields of a result (R33, R290). `opMask` holds the number of the `K` register. -/
structure VecExt where
  opMask                : Option (BitVec 3)
  zeroingMasking        : Bool
  roundingControl       : Option Rounding
  suppressAllExceptions : Bool
  deriving DecidableEq, Repr

/-- The `Instruction` record (R33). `operands` has `MAX_OPERANDS` slots, those from `opCount` on of kind `None` (R276);
`vec` is absent for a Legacy code (R290). -/
structure Instruction where
  code            : RowCode
  byteLength      : Nat
  operands        : List Operand
  opCount         : Nat
  hasRep          : Bool
  hasRepne        : Bool
  hasLock         : Bool
  segmentOverride : Option SegReg
  vec             : Option VecExt
  deriving DecidableEq, Repr

/-- The response (R21): a record, or a failure kind and nothing else (R337). -/
inductive Response
  | ok (out : Instruction)
  | fail (k : FailureKind)
  deriving DecidableEq, Repr

/-- The scalar part of a request (R20); `BUF` and `LEN` are the state's `buf`. -/
structure Request where
  start   : Nat
  ip      : Ip
  bitness : Bitness
  deriving DecidableEq, Repr

/-- The transient state of one transaction (R22, R24, R26, R29, R32, R33). -/
structure Txn where
  /-- `POS` (R24). -/
  pos    : Nat
  /-- `PS` (R26). -/
  ps     : PrefixState
  /-- `OPCODE`, `OSZ`, `ASZ`, `T` (R29). -/
  opcode : Option Byte
  osz    : Option OpSize
  asz    : Option AddrSize
  row    : Option Row
  /-- ModRM state and the displacement field (R32, R110). -/
  modrm  : Option ModRM
  /-- The trailing field as read (R111). -/
  trail  : List Byte
  /-- `MEM` (R32, R35). -/
  mem    : Option MemDesc
  /-- `OUT`, the record under assembly (R33). -/
  out    : Option Instruction
  deriving DecidableEq, Repr

/-- The transient state at the start of a transaction (R24, R26, R50). -/
def Txn.initial (start : Nat) : Txn :=
  { pos := start, ps := PrefixState.initial, opcode := none, osz := none, asz := none, row := none, modrm := none,
    trail := [], mem := none, out := none }

/-- Reasons the model stops. The block itself has none: its failures are responses (R335, R342). -/
inductive Fault
  /-- Raised by a meaning called when no transaction is in progress, which no step does (the block assembles operands only
  inside a transaction, R22). Safe: the model stops where the block has no behaviour at all. -/
  | noTransaction
  deriving DecidableEq, Repr

/-- Reasons the model has no meaning. -/
inductive Refusal
  /-- Raised by an arm of `exec` whose instruction has no meaning yet. Safe. No arm does now. -/
  | notModelled (mnemonic : String)
  deriving DecidableEq, Repr

/-- The state of the block. -/
structure State where
  /-- The parameters of R6, `TEMPLATE_ROM` among them (R22, R23). -/
  params   : Params
  /-- `BUF` and `LEN` of the request port (R20, R60). -/
  buf      : Memory
  /-- `START`, `IP`, `BITNESS` of the request port (R20); none before the first request (R370). -/
  request  : Option Request
  /-- The transaction in progress; none between transactions (R50, R370). -/
  txn      : Option Txn
  /-- The pending response (R21, R50). -/
  response : Option Response
  deriving DecidableEq, Repr

/-- The block right after reset (R50, R370, R371): `TEMPLATE_ROM` and the other parameters as given, no request, no
transaction, no response. -/
def State.resetWith (p : Params) : State :=
  { params := p, buf := Memory.empty, request := none, txn := none, response := none }

/-- The block right after reset with the reference values of R6 (log entry 2). -/
def State.reset : State := State.resetWith Params.reference

end Sys2Proof.Machine
end

