-- ==== Sys2Proof/Machine/Template.lean ====
section
/-! DEFINITION. The reference content of `TEMPLATE_ROM` (spec R113 to R116, opcode_table.json), one row per code, the table
that the parameters give (R6, R317), and the two maps
between an instruction and the fields of its encoding: `Instr.fields` (what the encoder writes) and `Instr.build` (what
the decoder builds). -/

namespace Sys2Proof

/-- A row of the Legacy space with every key `any`, in all three modes; the other rows are written as changes of it. -/
def legacyRow (c : Code) (m : OpMap) (op : Byte) (ops : List Shape) : Row :=
  { code := .ref c, space := .legacy, map := m, op := op, opmask := 0xFF, mp := none, osz := none, w := none, l := none,
    reg := none, mod := none, bitness := [.b16, .b32, .b64], hasModrm := false, ops := ops, lockable := false,
    mem := none, memB := none, k := false, zeroing := false, bcst := 0, ersae := .none, n := 1 }

/-- A VEX row of map `0F` (R115). -/
def vexRow (c : Code) (op : Byte) (mp : MandPfx) (l : Option VecLen) (cl : RegClass) (mem : MemorySize) : Row :=
  { legacyRow c .m0F op [.reg cl, .vvvv cl, .rm cl] with
    space := .vex, mp := some mp, l := l, hasModrm := true, mem := some mem }

/-- An EVEX row of map `0F` (R116); `n` is its `disp8*N` factor. -/
def evexRow (c : Code) (op : Byte) (mp : MandPfx) (w : Option Bool) (l : Option VecLen) (ops : List Shape)
    (mem : MemorySize) (n : Nat) : Row :=
  { legacyRow c .m0F op ops with
    space := .evex, mp := some mp, w := w, l := l, hasModrm := true, mem := some mem, k := true, n := n }

/-- The row of a code: key and body as opcode_table.json gives them (R30, R125). -/
def Code.row : Code → Row
  | .Add_rm8_r8 => { legacyRow .Add_rm8_r8 .m1B 0x00 [.rm .r8, .reg .r8] with hasModrm := true, lockable := true, mem := some .UInt8 }
  | .Add_rm16_r16 => { legacyRow .Add_rm16_r16 .m1B 0x01 [.rm .r16, .reg .r16] with osz := some .o16, hasModrm := true, lockable := true, mem := some .UInt16 }
  | .Add_rm32_r32 => { legacyRow .Add_rm32_r32 .m1B 0x01 [.rm .r32, .reg .r32] with osz := some .o32, hasModrm := true, lockable := true, mem := some .UInt32 }
  | .Add_rm64_r64 => { legacyRow .Add_rm64_r64 .m1B 0x01 [.rm .r64, .reg .r64] with osz := some .o64, hasModrm := true, lockable := true, mem := some .UInt64 }
  | .Add_r8_rm8 => { legacyRow .Add_r8_rm8 .m1B 0x02 [.reg .r8, .rm .r8] with hasModrm := true, mem := some .UInt8 }
  | .Add_r16_rm16 => { legacyRow .Add_r16_rm16 .m1B 0x03 [.reg .r16, .rm .r16] with osz := some .o16, hasModrm := true, mem := some .UInt16 }
  | .Add_r32_rm32 => { legacyRow .Add_r32_rm32 .m1B 0x03 [.reg .r32, .rm .r32] with osz := some .o32, hasModrm := true, mem := some .UInt32 }
  | .Add_r64_rm64 => { legacyRow .Add_r64_rm64 .m1B 0x03 [.reg .r64, .rm .r64] with osz := some .o64, hasModrm := true, mem := some .UInt64 }
  | .Add_AL_imm8 => legacyRow .Add_AL_imm8 .m1B 0x04 [.fixed (.r8 .AL), .imm 1 8 false]
  | .Add_AX_imm16 => { legacyRow .Add_AX_imm16 .m1B 0x05 [.fixed (.r16 0), .imm 2 16 false] with osz := some .o16 }
  | .Add_EAX_imm32 => { legacyRow .Add_EAX_imm32 .m1B 0x05 [.fixed (.r32 0), .imm 4 32 false] with osz := some .o32 }
  | .Add_RAX_imm32 => { legacyRow .Add_RAX_imm32 .m1B 0x05 [.fixed (.r64 0), .imm 4 64 true] with osz := some .o64 }
  | .Daa => { legacyRow .Daa .m1B 0x27 [] with bitness := [.b16, .b32] }
  | .Inc_r16 => { legacyRow .Inc_r16 .m1B 0x40 [.opreg .r16] with opmask := 0xF8, osz := some .o16, bitness := [.b16, .b32] }
  | .Inc_r32 => { legacyRow .Inc_r32 .m1B 0x40 [.opreg .r32] with opmask := 0xF8, osz := some .o32, bitness := [.b16, .b32] }
  | .Dec_r16 => { legacyRow .Dec_r16 .m1B 0x48 [.opreg .r16] with opmask := 0xF8, osz := some .o16, bitness := [.b16, .b32] }
  | .Dec_r32 => { legacyRow .Dec_r32 .m1B 0x48 [.opreg .r32] with opmask := 0xF8, osz := some .o32, bitness := [.b16, .b32] }
  | .Bound_r16_m1616 => { legacyRow .Bound_r16_m1616 .m1B 0x62 [.reg .r16, .mem] with osz := some .o16, mod := some .mem, bitness := [.b16, .b32], hasModrm := true, mem := some .Bound16_WordWord }
  | .Bound_r32_m3232 => { legacyRow .Bound_r32_m3232 .m1B 0x62 [.reg .r32, .mem] with osz := some .o32, mod := some .mem, bitness := [.b16, .b32], hasModrm := true, mem := some .Bound32_DwordDword }
  | .Je_rel8_16 => { legacyRow .Je_rel8_16 .m1B 0x74 [.rel 1 16] with osz := some .o16, bitness := [.b16, .b32] }
  | .Je_rel8_32 => { legacyRow .Je_rel8_32 .m1B 0x74 [.rel 1 32] with osz := some .o32, bitness := [.b16, .b32] }
  | .Je_rel8_64 => { legacyRow .Je_rel8_64 .m1B 0x74 [.rel 1 64] with bitness := [.b64] }
  | .Add_rm8_imm8 => { legacyRow .Add_rm8_imm8 .m1B 0x80 [.rm .r8, .imm 1 8 false] with reg := some 0, hasModrm := true, lockable := true, mem := some .UInt8 }
  | .Cmp_rm8_imm8 => { legacyRow .Cmp_rm8_imm8 .m1B 0x80 [.rm .r8, .imm 1 8 false] with reg := some 7, hasModrm := true, mem := some .UInt8 }
  | .Add_rm16_imm16 => { legacyRow .Add_rm16_imm16 .m1B 0x81 [.rm .r16, .imm 2 16 false] with osz := some .o16, reg := some 0, hasModrm := true, lockable := true, mem := some .UInt16 }
  | .Add_rm32_imm32 => { legacyRow .Add_rm32_imm32 .m1B 0x81 [.rm .r32, .imm 4 32 false] with osz := some .o32, reg := some 0, hasModrm := true, lockable := true, mem := some .UInt32 }
  | .Add_rm64_imm32 => { legacyRow .Add_rm64_imm32 .m1B 0x81 [.rm .r64, .imm 4 64 true] with osz := some .o64, reg := some 0, hasModrm := true, lockable := true, mem := some .UInt64 }
  | .Cmp_rm16_imm16 => { legacyRow .Cmp_rm16_imm16 .m1B 0x81 [.rm .r16, .imm 2 16 false] with osz := some .o16, reg := some 7, hasModrm := true, mem := some .UInt16 }
  | .Cmp_rm32_imm32 => { legacyRow .Cmp_rm32_imm32 .m1B 0x81 [.rm .r32, .imm 4 32 false] with osz := some .o32, reg := some 7, hasModrm := true, mem := some .UInt32 }
  | .Cmp_rm64_imm32 => { legacyRow .Cmp_rm64_imm32 .m1B 0x81 [.rm .r64, .imm 4 64 true] with osz := some .o64, reg := some 7, hasModrm := true, mem := some .UInt64 }
  | .Add_rm16_imm8 => { legacyRow .Add_rm16_imm8 .m1B 0x83 [.rm .r16, .imm 1 16 true] with osz := some .o16, reg := some 0, hasModrm := true, lockable := true, mem := some .UInt16 }
  | .Add_rm32_imm8 => { legacyRow .Add_rm32_imm8 .m1B 0x83 [.rm .r32, .imm 1 32 true] with osz := some .o32, reg := some 0, hasModrm := true, lockable := true, mem := some .UInt32 }
  | .Add_rm64_imm8 => { legacyRow .Add_rm64_imm8 .m1B 0x83 [.rm .r64, .imm 1 64 true] with osz := some .o64, reg := some 0, hasModrm := true, lockable := true, mem := some .UInt64 }
  | .Cmp_rm16_imm8 => { legacyRow .Cmp_rm16_imm8 .m1B 0x83 [.rm .r16, .imm 1 16 true] with osz := some .o16, reg := some 7, hasModrm := true, mem := some .UInt16 }
  | .Cmp_rm32_imm8 => { legacyRow .Cmp_rm32_imm8 .m1B 0x83 [.rm .r32, .imm 1 32 true] with osz := some .o32, reg := some 7, hasModrm := true, mem := some .UInt32 }
  | .Cmp_rm64_imm8 => { legacyRow .Cmp_rm64_imm8 .m1B 0x83 [.rm .r64, .imm 1 64 true] with osz := some .o64, reg := some 7, hasModrm := true, mem := some .UInt64 }
  | .Mov_rm8_r8 => { legacyRow .Mov_rm8_r8 .m1B 0x88 [.rm .r8, .reg .r8] with hasModrm := true, mem := some .UInt8 }
  | .Mov_rm16_r16 => { legacyRow .Mov_rm16_r16 .m1B 0x89 [.rm .r16, .reg .r16] with osz := some .o16, hasModrm := true, mem := some .UInt16 }
  | .Mov_rm32_r32 => { legacyRow .Mov_rm32_r32 .m1B 0x89 [.rm .r32, .reg .r32] with osz := some .o32, hasModrm := true, mem := some .UInt32 }
  | .Mov_rm64_r64 => { legacyRow .Mov_rm64_r64 .m1B 0x89 [.rm .r64, .reg .r64] with osz := some .o64, hasModrm := true, mem := some .UInt64 }
  | .Mov_r8_rm8 => { legacyRow .Mov_r8_rm8 .m1B 0x8A [.reg .r8, .rm .r8] with hasModrm := true, mem := some .UInt8 }
  | .Mov_r16_rm16 => { legacyRow .Mov_r16_rm16 .m1B 0x8B [.reg .r16, .rm .r16] with osz := some .o16, hasModrm := true, mem := some .UInt16 }
  | .Mov_r32_rm32 => { legacyRow .Mov_r32_rm32 .m1B 0x8B [.reg .r32, .rm .r32] with osz := some .o32, hasModrm := true, mem := some .UInt32 }
  | .Mov_r64_rm64 => { legacyRow .Mov_r64_rm64 .m1B 0x8B [.reg .r64, .rm .r64] with osz := some .o64, hasModrm := true, mem := some .UInt64 }
  | .Lea_r16_m => { legacyRow .Lea_r16_m .m1B 0x8D [.reg .r16, .mem] with osz := some .o16, mod := some .mem, hasModrm := true, mem := some .Unknown }
  | .Lea_r32_m => { legacyRow .Lea_r32_m .m1B 0x8D [.reg .r32, .mem] with osz := some .o32, mod := some .mem, hasModrm := true, mem := some .Unknown }
  | .Lea_r64_m => { legacyRow .Lea_r64_m .m1B 0x8D [.reg .r64, .mem] with osz := some .o64, mod := some .mem, hasModrm := true, mem := some .Unknown }
  | .Mov_AL_moffs8 => { legacyRow .Mov_AL_moffs8 .m1B 0xA0 [.fixed (.r8 .AL), .moffs] with mem := some .UInt8 }
  | .Mov_AX_moffs16 => { legacyRow .Mov_AX_moffs16 .m1B 0xA1 [.fixed (.r16 0), .moffs] with osz := some .o16, mem := some .UInt16 }
  | .Mov_EAX_moffs32 => { legacyRow .Mov_EAX_moffs32 .m1B 0xA1 [.fixed (.r32 0), .moffs] with osz := some .o32, mem := some .UInt32 }
  | .Mov_RAX_moffs64 => { legacyRow .Mov_RAX_moffs64 .m1B 0xA1 [.fixed (.r64 0), .moffs] with osz := some .o64, mem := some .UInt64 }
  | .Mov_moffs8_AL => { legacyRow .Mov_moffs8_AL .m1B 0xA2 [.moffs, .fixed (.r8 .AL)] with mem := some .UInt8 }
  | .Mov_moffs16_AX => { legacyRow .Mov_moffs16_AX .m1B 0xA3 [.moffs, .fixed (.r16 0)] with osz := some .o16, mem := some .UInt16 }
  | .Mov_moffs32_EAX => { legacyRow .Mov_moffs32_EAX .m1B 0xA3 [.moffs, .fixed (.r32 0)] with osz := some .o32, mem := some .UInt32 }
  | .Mov_moffs64_RAX => { legacyRow .Mov_moffs64_RAX .m1B 0xA3 [.moffs, .fixed (.r64 0)] with osz := some .o64, mem := some .UInt64 }
  | .Mov_r8_imm8 => { legacyRow .Mov_r8_imm8 .m1B 0xB0 [.opreg .r8, .imm 1 8 false] with opmask := 0xF8 }
  | .Mov_r16_imm16 => { legacyRow .Mov_r16_imm16 .m1B 0xB8 [.opreg .r16, .imm 2 16 false] with opmask := 0xF8, osz := some .o16 }
  | .Mov_r32_imm32 => { legacyRow .Mov_r32_imm32 .m1B 0xB8 [.opreg .r32, .imm 4 32 false] with opmask := 0xF8, osz := some .o32 }
  | .Mov_r64_imm64 => { legacyRow .Mov_r64_imm64 .m1B 0xB8 [.opreg .r64, .imm 8 64 false] with opmask := 0xF8, osz := some .o64 }
  | .Les_r16_m1616 => { legacyRow .Les_r16_m1616 .m1B 0xC4 [.reg .r16, .mem] with osz := some .o16, mod := some .mem, bitness := [.b16, .b32], hasModrm := true, mem := some .SegPtr16 }
  | .Les_r32_m1632 => { legacyRow .Les_r32_m1632 .m1B 0xC4 [.reg .r32, .mem] with osz := some .o32, mod := some .mem, bitness := [.b16, .b32], hasModrm := true, mem := some .SegPtr32 }
  | .Lds_r16_m1616 => { legacyRow .Lds_r16_m1616 .m1B 0xC5 [.reg .r16, .mem] with osz := some .o16, mod := some .mem, bitness := [.b16, .b32], hasModrm := true, mem := some .SegPtr16 }
  | .Lds_r32_m1632 => { legacyRow .Lds_r32_m1632 .m1B 0xC5 [.reg .r32, .mem] with osz := some .o32, mod := some .mem, bitness := [.b16, .b32], hasModrm := true, mem := some .SegPtr32 }
  | .Int3 => legacyRow .Int3 .m1B 0xCC []
  | .Call_rel16 => { legacyRow .Call_rel16 .m1B 0xE8 [.rel 2 16] with osz := some .o16, bitness := [.b16, .b32] }
  | .Call_rel32_32 => { legacyRow .Call_rel32_32 .m1B 0xE8 [.rel 4 32] with osz := some .o32, bitness := [.b16, .b32] }
  | .Call_rel32_64 => { legacyRow .Call_rel32_64 .m1B 0xE8 [.rel 4 64] with bitness := [.b64] }
  | .Jmp_rel16 => { legacyRow .Jmp_rel16 .m1B 0xE9 [.rel 2 16] with osz := some .o16, bitness := [.b16, .b32] }
  | .Jmp_rel32_32 => { legacyRow .Jmp_rel32_32 .m1B 0xE9 [.rel 4 32] with osz := some .o32, bitness := [.b16, .b32] }
  | .Jmp_rel32_64 => { legacyRow .Jmp_rel32_64 .m1B 0xE9 [.rel 4 64] with bitness := [.b64] }
  | .Jmp_rel8_16 => { legacyRow .Jmp_rel8_16 .m1B 0xEB [.rel 1 16] with osz := some .o16, bitness := [.b16, .b32] }
  | .Jmp_rel8_32 => { legacyRow .Jmp_rel8_32 .m1B 0xEB [.rel 1 32] with osz := some .o32, bitness := [.b16, .b32] }
  | .Jmp_rel8_64 => { legacyRow .Jmp_rel8_64 .m1B 0xEB [.rel 1 64] with bitness := [.b64] }
  | .Hlt => legacyRow .Hlt .m1B 0xF4 []
  | .Inc_rm8 => { legacyRow .Inc_rm8 .m1B 0xFE [.rm .r8] with reg := some 0, hasModrm := true, lockable := true, mem := some .UInt8 }
  | .Dec_rm8 => { legacyRow .Dec_rm8 .m1B 0xFE [.rm .r8] with reg := some 1, hasModrm := true, lockable := true, mem := some .UInt8 }
  | .Inc_rm16 => { legacyRow .Inc_rm16 .m1B 0xFF [.rm .r16] with osz := some .o16, reg := some 0, hasModrm := true, lockable := true, mem := some .UInt16 }
  | .Inc_rm32 => { legacyRow .Inc_rm32 .m1B 0xFF [.rm .r32] with osz := some .o32, reg := some 0, hasModrm := true, lockable := true, mem := some .UInt32 }
  | .Inc_rm64 => { legacyRow .Inc_rm64 .m1B 0xFF [.rm .r64] with osz := some .o64, reg := some 0, hasModrm := true, lockable := true, mem := some .UInt64 }
  | .Dec_rm16 => { legacyRow .Dec_rm16 .m1B 0xFF [.rm .r16] with osz := some .o16, reg := some 1, hasModrm := true, lockable := true, mem := some .UInt16 }
  | .Dec_rm32 => { legacyRow .Dec_rm32 .m1B 0xFF [.rm .r32] with osz := some .o32, reg := some 1, hasModrm := true, lockable := true, mem := some .UInt32 }
  | .Dec_rm64 => { legacyRow .Dec_rm64 .m1B 0xFF [.rm .r64] with osz := some .o64, reg := some 1, hasModrm := true, lockable := true, mem := some .UInt64 }
  | .Syscall => legacyRow .Syscall .m0F 0x05 []
  | .Addps_xmm_xmmm128 => { legacyRow .Addps_xmm_xmmm128 .m0F 0x58 [.reg .xmm, .rm .xmm] with mp := some .NP, hasModrm := true, mem := some .Packed128_Float32 }
  | .Addpd_xmm_xmmm128 => { legacyRow .Addpd_xmm_xmmm128 .m0F 0x58 [.reg .xmm, .rm .xmm] with mp := some .p66, hasModrm := true, mem := some .Packed128_Float64 }
  | .Addss_xmm_xmmm32 => { legacyRow .Addss_xmm_xmmm32 .m0F 0x58 [.reg .xmm, .rm .xmm] with mp := some .pF3, hasModrm := true, mem := some .Float32 }
  | .Addsd_xmm_xmmm64 => { legacyRow .Addsd_xmm_xmmm64 .m0F 0x58 [.reg .xmm, .rm .xmm] with mp := some .pF2, hasModrm := true, mem := some .Float64 }
  | .Punpcklbw_mm_mmm32 => { legacyRow .Punpcklbw_mm_mmm32 .m0F 0x60 [.reg .mm, .rm .mm] with mp := some .NP, hasModrm := true, mem := some .Packed32_Int8 }
  | .Punpcklbw_xmm_xmmm128 => { legacyRow .Punpcklbw_xmm_xmmm128 .m0F 0x60 [.reg .xmm, .rm .xmm] with mp := some .p66, hasModrm := true, mem := some .Packed128_Int8 }
  | .Punpcklwd_mm_mmm32 => { legacyRow .Punpcklwd_mm_mmm32 .m0F 0x61 [.reg .mm, .rm .mm] with mp := some .NP, hasModrm := true, mem := some .Packed32_Int16 }
  | .Punpcklwd_xmm_xmmm128 => { legacyRow .Punpcklwd_xmm_xmmm128 .m0F 0x61 [.reg .xmm, .rm .xmm] with mp := some .p66, hasModrm := true, mem := some .Packed128_Int16 }
  | .Punpckldq_mm_mmm32 => { legacyRow .Punpckldq_mm_mmm32 .m0F 0x62 [.reg .mm, .rm .mm] with mp := some .NP, hasModrm := true, mem := some .Int32 }
  | .Punpckldq_xmm_xmmm128 => { legacyRow .Punpckldq_xmm_xmmm128 .m0F 0x62 [.reg .xmm, .rm .xmm] with mp := some .p66, hasModrm := true, mem := some .Packed128_Int32 }
  | .Packsswb_mm_mmm64 => { legacyRow .Packsswb_mm_mmm64 .m0F 0x63 [.reg .mm, .rm .mm] with mp := some .NP, hasModrm := true, mem := some .Packed64_Int16 }
  | .Packsswb_xmm_xmmm128 => { legacyRow .Packsswb_xmm_xmmm128 .m0F 0x63 [.reg .xmm, .rm .xmm] with mp := some .p66, hasModrm := true, mem := some .Packed128_Int16 }
  | .Pcmpgtb_mm_mmm64 => { legacyRow .Pcmpgtb_mm_mmm64 .m0F 0x64 [.reg .mm, .rm .mm] with mp := some .NP, hasModrm := true, mem := some .Packed64_Int8 }
  | .Pcmpgtb_xmm_xmmm128 => { legacyRow .Pcmpgtb_xmm_xmmm128 .m0F 0x64 [.reg .xmm, .rm .xmm] with mp := some .p66, hasModrm := true, mem := some .Packed128_Int8 }
  | .Pcmpgtw_mm_mmm64 => { legacyRow .Pcmpgtw_mm_mmm64 .m0F 0x65 [.reg .mm, .rm .mm] with mp := some .NP, hasModrm := true, mem := some .Packed64_Int16 }
  | .Pcmpgtw_xmm_xmmm128 => { legacyRow .Pcmpgtw_xmm_xmmm128 .m0F 0x65 [.reg .xmm, .rm .xmm] with mp := some .p66, hasModrm := true, mem := some .Packed128_Int16 }
  | .Pcmpgtd_mm_mmm64 => { legacyRow .Pcmpgtd_mm_mmm64 .m0F 0x66 [.reg .mm, .rm .mm] with mp := some .NP, hasModrm := true, mem := some .Packed64_Int32 }
  | .Pcmpgtd_xmm_xmmm128 => { legacyRow .Pcmpgtd_xmm_xmmm128 .m0F 0x66 [.reg .xmm, .rm .xmm] with mp := some .p66, hasModrm := true, mem := some .Packed128_Int32 }
  | .Packuswb_mm_mmm64 => { legacyRow .Packuswb_mm_mmm64 .m0F 0x67 [.reg .mm, .rm .mm] with mp := some .NP, hasModrm := true, mem := some .Packed64_Int16 }
  | .Packuswb_xmm_xmmm128 => { legacyRow .Packuswb_xmm_xmmm128 .m0F 0x67 [.reg .xmm, .rm .xmm] with mp := some .p66, hasModrm := true, mem := some .Packed128_Int16 }
  | .Movd_mm_rm32 => { legacyRow .Movd_mm_rm32 .m0F 0x6E [.reg .mm, .rm .r32] with mp := some .NP, w := some false, hasModrm := true, mem := some .UInt32 }
  | .Movq_mm_rm64 => { legacyRow .Movq_mm_rm64 .m0F 0x6E [.reg .mm, .rm .r64] with mp := some .NP, w := some true, hasModrm := true, mem := some .UInt64 }
  | .Movd_xmm_rm32 => { legacyRow .Movd_xmm_rm32 .m0F 0x6E [.reg .xmm, .rm .r32] with mp := some .p66, w := some false, hasModrm := true, mem := some .UInt32 }
  | .Movq_xmm_rm64 => { legacyRow .Movq_xmm_rm64 .m0F 0x6E [.reg .xmm, .rm .r64] with mp := some .p66, w := some true, hasModrm := true, mem := some .UInt64 }
  | .Je_rel16 => { legacyRow .Je_rel16 .m0F 0x84 [.rel 2 16] with osz := some .o16, bitness := [.b16, .b32] }
  | .Je_rel32_32 => { legacyRow .Je_rel32_32 .m0F 0x84 [.rel 4 32] with osz := some .o32, bitness := [.b16, .b32] }
  | .Je_rel32_64 => { legacyRow .Je_rel32_64 .m0F 0x84 [.rel 4 64] with bitness := [.b64] }
  | .Fxsave_m512byte => { legacyRow .Fxsave_m512byte .m0F 0xAE [.mem] with mp := some .NP, w := some false, reg := some 0, mod := some .mem, hasModrm := true, mem := some .Fxsave_512Byte }
  | .Fxsave64_m512byte => { legacyRow .Fxsave64_m512byte .m0F 0xAE [.mem] with mp := some .NP, w := some true, reg := some 0, mod := some .mem, hasModrm := true, mem := some .Fxsave64_512Byte }
  | .Fxrstor_m512byte => { legacyRow .Fxrstor_m512byte .m0F 0xAE [.mem] with mp := some .NP, w := some false, reg := some 1, mod := some .mem, hasModrm := true, mem := some .Fxsave_512Byte }
  | .Fxrstor64_m512byte => { legacyRow .Fxrstor64_m512byte .m0F 0xAE [.mem] with mp := some .NP, w := some true, reg := some 1, mod := some .mem, hasModrm := true, mem := some .Fxsave64_512Byte }
  | .Ldmxcsr_m32 => { legacyRow .Ldmxcsr_m32 .m0F 0xAE [.mem] with mp := some .NP, reg := some 2, mod := some .mem, hasModrm := true, mem := some .UInt32 }
  | .Stmxcsr_m32 => { legacyRow .Stmxcsr_m32 .m0F 0xAE [.mem] with mp := some .NP, reg := some 3, mod := some .mem, hasModrm := true, mem := some .UInt32 }
  | .Clflush_m8 => { legacyRow .Clflush_m8 .m0F 0xAE [.mem] with mp := some .NP, reg := some 7, mod := some .mem, hasModrm := true, mem := some .UInt8 }
  | .Lfence => { legacyRow .Lfence .m0F 0xAE [] with mp := some .NP, reg := some 5, mod := some .reg, hasModrm := true }
  | .Mfence => { legacyRow .Mfence .m0F 0xAE [] with mp := some .NP, reg := some 6, mod := some .reg, hasModrm := true }
  | .Sfence => { legacyRow .Sfence .m0F 0xAE [] with mp := some .NP, reg := some 7, mod := some .reg, hasModrm := true }
  | .VEX_Vaddps_xmm_xmm_xmmm128 => vexRow .VEX_Vaddps_xmm_xmm_xmmm128 0x58 .NP (some .l128) .xmm .Packed128_Float32
  | .VEX_Vaddps_ymm_ymm_ymmm256 => vexRow .VEX_Vaddps_ymm_ymm_ymmm256 0x58 .NP (some .l256) .ymm .Packed256_Float32
  | .VEX_Vaddpd_xmm_xmm_xmmm128 => vexRow .VEX_Vaddpd_xmm_xmm_xmmm128 0x58 .p66 (some .l128) .xmm .Packed128_Float64
  | .VEX_Vaddpd_ymm_ymm_ymmm256 => vexRow .VEX_Vaddpd_ymm_ymm_ymmm256 0x58 .p66 (some .l256) .ymm .Packed256_Float64
  | .VEX_Vaddss_xmm_xmm_xmmm32 => vexRow .VEX_Vaddss_xmm_xmm_xmmm32 0x58 .pF3 none .xmm .Float32
  | .VEX_Vaddsd_xmm_xmm_xmmm64 => vexRow .VEX_Vaddsd_xmm_xmm_xmmm64 0x58 .pF2 none .xmm .Float64
  | .VEX_Vpunpcklbw_xmm_xmm_xmmm128 => vexRow .VEX_Vpunpcklbw_xmm_xmm_xmmm128 0x60 .p66 (some .l128) .xmm .Packed128_Int8
  | .VEX_Vpunpcklbw_ymm_ymm_ymmm256 => vexRow .VEX_Vpunpcklbw_ymm_ymm_ymmm256 0x60 .p66 (some .l256) .ymm .Packed256_Int8
  | .VEX_Vpunpcklwd_xmm_xmm_xmmm128 => vexRow .VEX_Vpunpcklwd_xmm_xmm_xmmm128 0x61 .p66 (some .l128) .xmm .Packed128_Int16
  | .VEX_Vpunpcklwd_ymm_ymm_ymmm256 => vexRow .VEX_Vpunpcklwd_ymm_ymm_ymmm256 0x61 .p66 (some .l256) .ymm .Packed256_Int16
  | .VEX_Vpunpckldq_xmm_xmm_xmmm128 => vexRow .VEX_Vpunpckldq_xmm_xmm_xmmm128 0x62 .p66 (some .l128) .xmm .Packed128_Int32
  | .VEX_Vpunpckldq_ymm_ymm_ymmm256 => vexRow .VEX_Vpunpckldq_ymm_ymm_ymmm256 0x62 .p66 (some .l256) .ymm .Packed256_Int32
  | .VEX_Vpacksswb_xmm_xmm_xmmm128 => vexRow .VEX_Vpacksswb_xmm_xmm_xmmm128 0x63 .p66 (some .l128) .xmm .Packed128_Int16
  | .VEX_Vpacksswb_ymm_ymm_ymmm256 => vexRow .VEX_Vpacksswb_ymm_ymm_ymmm256 0x63 .p66 (some .l256) .ymm .Packed256_Int16
  | .VEX_Vpcmpgtb_xmm_xmm_xmmm128 => vexRow .VEX_Vpcmpgtb_xmm_xmm_xmmm128 0x64 .p66 (some .l128) .xmm .Packed128_Int8
  | .VEX_Vpcmpgtb_ymm_ymm_ymmm256 => vexRow .VEX_Vpcmpgtb_ymm_ymm_ymmm256 0x64 .p66 (some .l256) .ymm .Packed256_Int8
  | .VEX_Vpcmpgtw_xmm_xmm_xmmm128 => vexRow .VEX_Vpcmpgtw_xmm_xmm_xmmm128 0x65 .p66 (some .l128) .xmm .Packed128_Int16
  | .VEX_Vpcmpgtw_ymm_ymm_ymmm256 => vexRow .VEX_Vpcmpgtw_ymm_ymm_ymmm256 0x65 .p66 (some .l256) .ymm .Packed256_Int16
  | .VEX_Vpcmpgtd_xmm_xmm_xmmm128 => vexRow .VEX_Vpcmpgtd_xmm_xmm_xmmm128 0x66 .p66 (some .l128) .xmm .Packed128_Int32
  | .VEX_Vpcmpgtd_ymm_ymm_ymmm256 => vexRow .VEX_Vpcmpgtd_ymm_ymm_ymmm256 0x66 .p66 (some .l256) .ymm .Packed256_Int32
  | .VEX_Vpackuswb_xmm_xmm_xmmm128 => vexRow .VEX_Vpackuswb_xmm_xmm_xmmm128 0x67 .p66 (some .l128) .xmm .Packed128_Int16
  | .VEX_Vpackuswb_ymm_ymm_ymmm256 => vexRow .VEX_Vpackuswb_ymm_ymm_ymmm256 0x67 .p66 (some .l256) .ymm .Packed256_Int16
  | .EVEX_Vaddps_xmm_k1z_xmm_xmmm128b32 => { evexRow .EVEX_Vaddps_xmm_k1z_xmm_xmmm128b32 0x58 .NP (some false) (some .l128) [.reg .xmm, .vvvv .xmm, .rm .xmm] .Packed128_Float32 16 with zeroing := true, bcst := 4, memB := some .Broadcast128_Float32 }
  | .EVEX_Vaddps_ymm_k1z_ymm_ymmm256b32 => { evexRow .EVEX_Vaddps_ymm_k1z_ymm_ymmm256b32 0x58 .NP (some false) (some .l256) [.reg .ymm, .vvvv .ymm, .rm .ymm] .Packed256_Float32 32 with zeroing := true, bcst := 4, memB := some .Broadcast256_Float32 }
  | .EVEX_Vaddps_zmm_k1z_zmm_zmmm512b32_er => { evexRow .EVEX_Vaddps_zmm_k1z_zmm_zmmm512b32_er 0x58 .NP (some false) (some .l512) [.reg .zmm, .vvvv .zmm, .rm .zmm] .Packed512_Float32 64 with zeroing := true, bcst := 4, memB := some .Broadcast512_Float32, ersae := .er }
  | .EVEX_Vaddpd_xmm_k1z_xmm_xmmm128b64 => { evexRow .EVEX_Vaddpd_xmm_k1z_xmm_xmmm128b64 0x58 .p66 (some true) (some .l128) [.reg .xmm, .vvvv .xmm, .rm .xmm] .Packed128_Float64 16 with zeroing := true, bcst := 8, memB := some .Broadcast128_Float64 }
  | .EVEX_Vaddpd_ymm_k1z_ymm_ymmm256b64 => { evexRow .EVEX_Vaddpd_ymm_k1z_ymm_ymmm256b64 0x58 .p66 (some true) (some .l256) [.reg .ymm, .vvvv .ymm, .rm .ymm] .Packed256_Float64 32 with zeroing := true, bcst := 8, memB := some .Broadcast256_Float64 }
  | .EVEX_Vaddpd_zmm_k1z_zmm_zmmm512b64_er => { evexRow .EVEX_Vaddpd_zmm_k1z_zmm_zmmm512b64_er 0x58 .p66 (some true) (some .l512) [.reg .zmm, .vvvv .zmm, .rm .zmm] .Packed512_Float64 64 with zeroing := true, bcst := 8, memB := some .Broadcast512_Float64, ersae := .er }
  | .EVEX_Vaddss_xmm_k1z_xmm_xmmm32_er => { evexRow .EVEX_Vaddss_xmm_k1z_xmm_xmmm32_er 0x58 .pF3 (some false) none [.reg .xmm, .vvvv .xmm, .rm .xmm] .Float32 4 with zeroing := true, ersae := .er }
  | .EVEX_Vaddsd_xmm_k1z_xmm_xmmm64_er => { evexRow .EVEX_Vaddsd_xmm_k1z_xmm_xmmm64_er 0x58 .pF2 (some true) none [.reg .xmm, .vvvv .xmm, .rm .xmm] .Float64 8 with zeroing := true, ersae := .er }
  | .EVEX_Vmaxps_xmm_k1z_xmm_xmmm128b32 => { evexRow .EVEX_Vmaxps_xmm_k1z_xmm_xmmm128b32 0x5F .NP (some false) (some .l128) [.reg .xmm, .vvvv .xmm, .rm .xmm] .Packed128_Float32 16 with zeroing := true, bcst := 4, memB := some .Broadcast128_Float32 }
  | .EVEX_Vmaxps_ymm_k1z_ymm_ymmm256b32 => { evexRow .EVEX_Vmaxps_ymm_k1z_ymm_ymmm256b32 0x5F .NP (some false) (some .l256) [.reg .ymm, .vvvv .ymm, .rm .ymm] .Packed256_Float32 32 with zeroing := true, bcst := 4, memB := some .Broadcast256_Float32 }
  | .EVEX_Vmaxps_zmm_k1z_zmm_zmmm512b32_sae => { evexRow .EVEX_Vmaxps_zmm_k1z_zmm_zmmm512b32_sae 0x5F .NP (some false) (some .l512) [.reg .zmm, .vvvv .zmm, .rm .zmm] .Packed512_Float32 64 with zeroing := true, bcst := 4, memB := some .Broadcast512_Float32, ersae := .sae }
  | .EVEX_Vpunpcklbw_xmm_k1z_xmm_xmmm128 => { evexRow .EVEX_Vpunpcklbw_xmm_k1z_xmm_xmmm128 0x60 .p66 none (some .l128) [.reg .xmm, .vvvv .xmm, .rm .xmm] .Packed128_Int8 16 with zeroing := true }
  | .EVEX_Vpunpcklbw_ymm_k1z_ymm_ymmm256 => { evexRow .EVEX_Vpunpcklbw_ymm_k1z_ymm_ymmm256 0x60 .p66 none (some .l256) [.reg .ymm, .vvvv .ymm, .rm .ymm] .Packed256_Int8 32 with zeroing := true }
  | .EVEX_Vpunpcklbw_zmm_k1z_zmm_zmmm512 => { evexRow .EVEX_Vpunpcklbw_zmm_k1z_zmm_zmmm512 0x60 .p66 none (some .l512) [.reg .zmm, .vvvv .zmm, .rm .zmm] .Packed512_Int8 64 with zeroing := true }
  | .EVEX_Vpunpcklwd_xmm_k1z_xmm_xmmm128 => { evexRow .EVEX_Vpunpcklwd_xmm_k1z_xmm_xmmm128 0x61 .p66 none (some .l128) [.reg .xmm, .vvvv .xmm, .rm .xmm] .Packed128_Int16 16 with zeroing := true }
  | .EVEX_Vpunpcklwd_ymm_k1z_ymm_ymmm256 => { evexRow .EVEX_Vpunpcklwd_ymm_k1z_ymm_ymmm256 0x61 .p66 none (some .l256) [.reg .ymm, .vvvv .ymm, .rm .ymm] .Packed256_Int16 32 with zeroing := true }
  | .EVEX_Vpunpcklwd_zmm_k1z_zmm_zmmm512 => { evexRow .EVEX_Vpunpcklwd_zmm_k1z_zmm_zmmm512 0x61 .p66 none (some .l512) [.reg .zmm, .vvvv .zmm, .rm .zmm] .Packed512_Int16 64 with zeroing := true }
  | .EVEX_Vpunpckldq_xmm_k1z_xmm_xmmm128b32 => { evexRow .EVEX_Vpunpckldq_xmm_k1z_xmm_xmmm128b32 0x62 .p66 (some false) (some .l128) [.reg .xmm, .vvvv .xmm, .rm .xmm] .Packed128_Int32 16 with zeroing := true, bcst := 4, memB := some .Broadcast128_Int32 }
  | .EVEX_Vpunpckldq_ymm_k1z_ymm_ymmm256b32 => { evexRow .EVEX_Vpunpckldq_ymm_k1z_ymm_ymmm256b32 0x62 .p66 (some false) (some .l256) [.reg .ymm, .vvvv .ymm, .rm .ymm] .Packed256_Int32 32 with zeroing := true, bcst := 4, memB := some .Broadcast256_Int32 }
  | .EVEX_Vpunpckldq_zmm_k1z_zmm_zmmm512b32 => { evexRow .EVEX_Vpunpckldq_zmm_k1z_zmm_zmmm512b32 0x62 .p66 (some false) (some .l512) [.reg .zmm, .vvvv .zmm, .rm .zmm] .Packed512_Int32 64 with zeroing := true, bcst := 4, memB := some .Broadcast512_Int32 }
  | .EVEX_Vpacksswb_xmm_k1z_xmm_xmmm128 => { evexRow .EVEX_Vpacksswb_xmm_k1z_xmm_xmmm128 0x63 .p66 none (some .l128) [.reg .xmm, .vvvv .xmm, .rm .xmm] .Packed128_Int16 16 with zeroing := true }
  | .EVEX_Vpacksswb_ymm_k1z_ymm_ymmm256 => { evexRow .EVEX_Vpacksswb_ymm_k1z_ymm_ymmm256 0x63 .p66 none (some .l256) [.reg .ymm, .vvvv .ymm, .rm .ymm] .Packed256_Int16 32 with zeroing := true }
  | .EVEX_Vpacksswb_zmm_k1z_zmm_zmmm512 => { evexRow .EVEX_Vpacksswb_zmm_k1z_zmm_zmmm512 0x63 .p66 none (some .l512) [.reg .zmm, .vvvv .zmm, .rm .zmm] .Packed512_Int16 64 with zeroing := true }
  | .EVEX_Vpcmpgtb_k_k1_xmm_xmmm128 => evexRow .EVEX_Vpcmpgtb_k_k1_xmm_xmmm128 0x64 .p66 none (some .l128) [.reg .k, .vvvv .xmm, .rm .xmm] .Packed128_Int8 16
  | .EVEX_Vpcmpgtb_k_k1_ymm_ymmm256 => evexRow .EVEX_Vpcmpgtb_k_k1_ymm_ymmm256 0x64 .p66 none (some .l256) [.reg .k, .vvvv .ymm, .rm .ymm] .Packed256_Int8 32
  | .EVEX_Vpcmpgtb_k_k1_zmm_zmmm512 => evexRow .EVEX_Vpcmpgtb_k_k1_zmm_zmmm512 0x64 .p66 none (some .l512) [.reg .k, .vvvv .zmm, .rm .zmm] .Packed512_Int8 64
  | .EVEX_Vpcmpgtw_k_k1_xmm_xmmm128 => evexRow .EVEX_Vpcmpgtw_k_k1_xmm_xmmm128 0x65 .p66 none (some .l128) [.reg .k, .vvvv .xmm, .rm .xmm] .Packed128_Int16 16
  | .EVEX_Vpcmpgtw_k_k1_ymm_ymmm256 => evexRow .EVEX_Vpcmpgtw_k_k1_ymm_ymmm256 0x65 .p66 none (some .l256) [.reg .k, .vvvv .ymm, .rm .ymm] .Packed256_Int16 32
  | .EVEX_Vpcmpgtw_k_k1_zmm_zmmm512 => evexRow .EVEX_Vpcmpgtw_k_k1_zmm_zmmm512 0x65 .p66 none (some .l512) [.reg .k, .vvvv .zmm, .rm .zmm] .Packed512_Int16 64
  | .EVEX_Vpcmpgtd_k_k1_xmm_xmmm128b32 => { evexRow .EVEX_Vpcmpgtd_k_k1_xmm_xmmm128b32 0x66 .p66 (some false) (some .l128) [.reg .k, .vvvv .xmm, .rm .xmm] .Packed128_Int32 16 with bcst := 4, memB := some .Broadcast128_Int32 }
  | .EVEX_Vpcmpgtd_k_k1_ymm_ymmm256b32 => { evexRow .EVEX_Vpcmpgtd_k_k1_ymm_ymmm256b32 0x66 .p66 (some false) (some .l256) [.reg .k, .vvvv .ymm, .rm .ymm] .Packed256_Int32 32 with bcst := 4, memB := some .Broadcast256_Int32 }
  | .EVEX_Vpcmpgtd_k_k1_zmm_zmmm512b32 => { evexRow .EVEX_Vpcmpgtd_k_k1_zmm_zmmm512b32 0x66 .p66 (some false) (some .l512) [.reg .k, .vvvv .zmm, .rm .zmm] .Packed512_Int32 64 with bcst := 4, memB := some .Broadcast512_Int32 }
  | .EVEX_Vpackuswb_xmm_k1z_xmm_xmmm128 => { evexRow .EVEX_Vpackuswb_xmm_k1z_xmm_xmmm128 0x67 .p66 none (some .l128) [.reg .xmm, .vvvv .xmm, .rm .xmm] .Packed128_Int16 16 with zeroing := true }
  | .EVEX_Vpackuswb_ymm_k1z_ymm_ymmm256 => { evexRow .EVEX_Vpackuswb_ymm_k1z_ymm_ymmm256 0x67 .p66 none (some .l256) [.reg .ymm, .vvvv .ymm, .rm .ymm] .Packed256_Int16 32 with zeroing := true }
  | .EVEX_Vpackuswb_zmm_k1z_zmm_zmmm512 => { evexRow .EVEX_Vpackuswb_zmm_k1z_zmm_zmmm512 0x67 .p66 none (some .l512) [.reg .zmm, .vvvv .zmm, .rm .zmm] .Packed512_Int16 64 with zeroing := true }
  | .EVEX_Vmovdqa32_xmm_k1z_xmmm128 => { evexRow .EVEX_Vmovdqa32_xmm_k1z_xmmm128 0x6F .p66 (some false) (some .l128) [.reg .xmm, .rm .xmm] .Packed128_Int32 16 with zeroing := true }
  | .EVEX_Vmovdqa32_ymm_k1z_ymmm256 => { evexRow .EVEX_Vmovdqa32_ymm_k1z_ymmm256 0x6F .p66 (some false) (some .l256) [.reg .ymm, .rm .ymm] .Packed256_Int32 32 with zeroing := true }
  | .EVEX_Vmovdqa32_zmm_k1z_zmmm512 => { evexRow .EVEX_Vmovdqa32_zmm_k1z_zmmm512 0x6F .p66 (some false) (some .l512) [.reg .zmm, .rm .zmm] .Packed512_Int32 64 with zeroing := true }
  | .EVEX_Vmovdqa64_xmm_k1z_xmmm128 => { evexRow .EVEX_Vmovdqa64_xmm_k1z_xmmm128 0x6F .p66 (some true) (some .l128) [.reg .xmm, .rm .xmm] .Packed128_Int64 16 with zeroing := true }
  | .EVEX_Vmovdqa64_ymm_k1z_ymmm256 => { evexRow .EVEX_Vmovdqa64_ymm_k1z_ymmm256 0x6F .p66 (some true) (some .l256) [.reg .ymm, .rm .ymm] .Packed256_Int64 32 with zeroing := true }
  | .EVEX_Vmovdqa64_zmm_k1z_zmmm512 => { evexRow .EVEX_Vmovdqa64_zmm_k1z_zmmm512 0x6F .p66 (some true) (some .l512) [.reg .zmm, .rm .zmm] .Packed512_Int64 64 with zeroing := true }

/-- The codes of R113, in table order. -/
def codesLegacy1B : List Code :=
  [ .Add_rm8_r8, .Add_rm16_r16, .Add_rm32_r32, .Add_rm64_r64,
    .Add_r8_rm8, .Add_r16_rm16, .Add_r32_rm32, .Add_r64_rm64,
    .Add_AL_imm8, .Add_AX_imm16, .Add_EAX_imm32, .Add_RAX_imm32,
    .Daa, .Inc_r16, .Inc_r32, .Dec_r16,
    .Dec_r32, .Bound_r16_m1616, .Bound_r32_m3232, .Je_rel8_16,
    .Je_rel8_32, .Je_rel8_64, .Add_rm8_imm8, .Cmp_rm8_imm8,
    .Add_rm16_imm16, .Add_rm32_imm32, .Add_rm64_imm32, .Cmp_rm16_imm16,
    .Cmp_rm32_imm32, .Cmp_rm64_imm32, .Add_rm16_imm8, .Add_rm32_imm8,
    .Add_rm64_imm8, .Cmp_rm16_imm8, .Cmp_rm32_imm8, .Cmp_rm64_imm8,
    .Mov_rm8_r8, .Mov_rm16_r16, .Mov_rm32_r32, .Mov_rm64_r64,
    .Mov_r8_rm8, .Mov_r16_rm16, .Mov_r32_rm32, .Mov_r64_rm64,
    .Lea_r16_m, .Lea_r32_m, .Lea_r64_m, .Mov_AL_moffs8,
    .Mov_AX_moffs16, .Mov_EAX_moffs32, .Mov_RAX_moffs64, .Mov_moffs8_AL,
    .Mov_moffs16_AX, .Mov_moffs32_EAX, .Mov_moffs64_RAX, .Mov_r8_imm8,
    .Mov_r16_imm16, .Mov_r32_imm32, .Mov_r64_imm64, .Les_r16_m1616,
    .Les_r32_m1632, .Lds_r16_m1616, .Lds_r32_m1632, .Int3,
    .Call_rel16, .Call_rel32_32, .Call_rel32_64, .Jmp_rel16,
    .Jmp_rel32_32, .Jmp_rel32_64, .Jmp_rel8_16, .Jmp_rel8_32,
    .Jmp_rel8_64, .Hlt, .Inc_rm8, .Dec_rm8,
    .Inc_rm16, .Inc_rm32, .Inc_rm64, .Dec_rm16,
    .Dec_rm32, .Dec_rm64 ]

/-- The codes of R114, in table order. -/
def codesLegacy0F : List Code :=
  [ .Syscall, .Addps_xmm_xmmm128, .Addpd_xmm_xmmm128, .Addss_xmm_xmmm32,
    .Addsd_xmm_xmmm64, .Punpcklbw_mm_mmm32, .Punpcklbw_xmm_xmmm128, .Punpcklwd_mm_mmm32,
    .Punpcklwd_xmm_xmmm128, .Punpckldq_mm_mmm32, .Punpckldq_xmm_xmmm128, .Packsswb_mm_mmm64,
    .Packsswb_xmm_xmmm128, .Pcmpgtb_mm_mmm64, .Pcmpgtb_xmm_xmmm128, .Pcmpgtw_mm_mmm64,
    .Pcmpgtw_xmm_xmmm128, .Pcmpgtd_mm_mmm64, .Pcmpgtd_xmm_xmmm128, .Packuswb_mm_mmm64,
    .Packuswb_xmm_xmmm128, .Movd_mm_rm32, .Movq_mm_rm64, .Movd_xmm_rm32,
    .Movq_xmm_rm64, .Je_rel16, .Je_rel32_32, .Je_rel32_64,
    .Fxsave_m512byte, .Fxsave64_m512byte, .Fxrstor_m512byte, .Fxrstor64_m512byte,
    .Ldmxcsr_m32, .Stmxcsr_m32, .Clflush_m8, .Lfence,
    .Mfence, .Sfence ]

/-- The codes of R115, in table order. -/
def codesVex : List Code :=
  [ .VEX_Vaddps_xmm_xmm_xmmm128, .VEX_Vaddps_ymm_ymm_ymmm256, .VEX_Vaddpd_xmm_xmm_xmmm128, .VEX_Vaddpd_ymm_ymm_ymmm256,
    .VEX_Vaddss_xmm_xmm_xmmm32, .VEX_Vaddsd_xmm_xmm_xmmm64, .VEX_Vpunpcklbw_xmm_xmm_xmmm128, .VEX_Vpunpcklbw_ymm_ymm_ymmm256,
    .VEX_Vpunpcklwd_xmm_xmm_xmmm128, .VEX_Vpunpcklwd_ymm_ymm_ymmm256, .VEX_Vpunpckldq_xmm_xmm_xmmm128, .VEX_Vpunpckldq_ymm_ymm_ymmm256,
    .VEX_Vpacksswb_xmm_xmm_xmmm128, .VEX_Vpacksswb_ymm_ymm_ymmm256, .VEX_Vpcmpgtb_xmm_xmm_xmmm128, .VEX_Vpcmpgtb_ymm_ymm_ymmm256,
    .VEX_Vpcmpgtw_xmm_xmm_xmmm128, .VEX_Vpcmpgtw_ymm_ymm_ymmm256, .VEX_Vpcmpgtd_xmm_xmm_xmmm128, .VEX_Vpcmpgtd_ymm_ymm_ymmm256,
    .VEX_Vpackuswb_xmm_xmm_xmmm128, .VEX_Vpackuswb_ymm_ymm_ymmm256 ]

/-- The codes of R116, in table order. -/
def codesEvex : List Code :=
  [ .EVEX_Vaddps_xmm_k1z_xmm_xmmm128b32, .EVEX_Vaddps_ymm_k1z_ymm_ymmm256b32, .EVEX_Vaddps_zmm_k1z_zmm_zmmm512b32_er, .EVEX_Vaddpd_xmm_k1z_xmm_xmmm128b64,
    .EVEX_Vaddpd_ymm_k1z_ymm_ymmm256b64, .EVEX_Vaddpd_zmm_k1z_zmm_zmmm512b64_er, .EVEX_Vaddss_xmm_k1z_xmm_xmmm32_er, .EVEX_Vaddsd_xmm_k1z_xmm_xmmm64_er,
    .EVEX_Vmaxps_xmm_k1z_xmm_xmmm128b32, .EVEX_Vmaxps_ymm_k1z_ymm_ymmm256b32, .EVEX_Vmaxps_zmm_k1z_zmm_zmmm512b32_sae, .EVEX_Vpunpcklbw_xmm_k1z_xmm_xmmm128,
    .EVEX_Vpunpcklbw_ymm_k1z_ymm_ymmm256, .EVEX_Vpunpcklbw_zmm_k1z_zmm_zmmm512, .EVEX_Vpunpcklwd_xmm_k1z_xmm_xmmm128, .EVEX_Vpunpcklwd_ymm_k1z_ymm_ymmm256,
    .EVEX_Vpunpcklwd_zmm_k1z_zmm_zmmm512, .EVEX_Vpunpckldq_xmm_k1z_xmm_xmmm128b32, .EVEX_Vpunpckldq_ymm_k1z_ymm_ymmm256b32, .EVEX_Vpunpckldq_zmm_k1z_zmm_zmmm512b32,
    .EVEX_Vpacksswb_xmm_k1z_xmm_xmmm128, .EVEX_Vpacksswb_ymm_k1z_ymm_ymmm256, .EVEX_Vpacksswb_zmm_k1z_zmm_zmmm512, .EVEX_Vpcmpgtb_k_k1_xmm_xmmm128,
    .EVEX_Vpcmpgtb_k_k1_ymm_ymmm256, .EVEX_Vpcmpgtb_k_k1_zmm_zmmm512, .EVEX_Vpcmpgtw_k_k1_xmm_xmmm128, .EVEX_Vpcmpgtw_k_k1_ymm_ymmm256,
    .EVEX_Vpcmpgtw_k_k1_zmm_zmmm512, .EVEX_Vpcmpgtd_k_k1_xmm_xmmm128b32, .EVEX_Vpcmpgtd_k_k1_ymm_ymmm256b32, .EVEX_Vpcmpgtd_k_k1_zmm_zmmm512b32,
    .EVEX_Vpackuswb_xmm_k1z_xmm_xmmm128, .EVEX_Vpackuswb_ymm_k1z_ymm_ymmm256, .EVEX_Vpackuswb_zmm_k1z_zmm_zmmm512, .EVEX_Vmovdqa32_xmm_k1z_xmmm128,
    .EVEX_Vmovdqa32_ymm_k1z_ymmm256, .EVEX_Vmovdqa32_zmm_k1z_zmmm512, .EVEX_Vmovdqa64_xmm_k1z_xmmm128, .EVEX_Vmovdqa64_ymm_k1z_ymmm256,
    .EVEX_Vmovdqa64_zmm_k1z_zmmm512 ]

/-- Every code of the reference ROM, in table order. -/
def Code.all : List Code := codesLegacy1B ++ codesLegacy0F ++ codesVex ++ codesEvex

/-- The reference content of `TEMPLATE_ROM` (R6, R370): 183 rows. It is the one for `P_BRANCH66_IN64` = `ignore66`. -/
def templateRom : List Row := Code.all.map Code.row

/-- The near branches of 64-bit mode, each with the 16-bit branch of the same opcode (R317). -/
def branchPairs : List (Code × Code) :=
  [(.Je_rel8_64, .Je_rel8_16), (.Call_rel32_64, .Call_rel16), (.Jmp_rel32_64, .Jmp_rel16), (.Jmp_rel8_64, .Jmp_rel8_16),
   (.Je_rel32_64, .Je_rel16)]

/-- The rows of one pair under `P_BRANCH66_IN64` = `width16` (R317): an additional row keyed `osz` = 16 at bitness 64 with the
body of the 16-bit branch, and the 64-bit row keyed by the other two sizes, since the keys must be disjoint (R203 (b)). That
the additional row has the code of the 16-bit branch is a DESIGN CHOICE (log entry 3). -/
def branchRows16 (x : Code × Code) : List Row :=
  [{ x.2.row with osz := some .o16, bitness := [.b64] }, { x.1.row with osz := some .o32 }, { x.1.row with osz := some .o64 }]

/-- The reference content with the rows of `P_BRANCH66_IN64` = `width16` (R317). -/
def templateRom16 : List Row :=
  (Code.all.filter fun c => !branchPairs.any fun x => decide (x.1 = c)).map Code.row ++ branchPairs.flatMap branchRows16

/-- `TEMPLATE_ROM` under these parameters (R6, R23). Another content carries its own near-branch rows: `P_BRANCH66_IN64` says
which rows the table has (R317), so it selects between the two reference contents (log entry 3). -/
def Params.table (p : Params) : List Row :=
  match p.rom with
  | .other rows => rows
  | .reference => match p.branch66In64 with
    | .ignore66 => templateRom
    | .width16 => templateRom16

/-- A row of the reference content, up to the operand-size and mode keys: its meaning is that of the code's own rule. -/
def Row.isReference (r : Row) : Bool :=
  match r.code with
  | .ref c => decide ({ r with osz := c.row.osz, bitness := c.row.bitness } = c.row)
  | .other _ => false

/-- What the parts of an encoding leave: the prefix part, the register number in the low bits of the opcode byte, the
ModRM part, and the trailing bytes in buffer order. -/
structure Parts where
  pfx   : Prefix
  low   : BitVec 3
  modrm : Option ModRM
  trail : List Byte
  deriving DecidableEq, Repr

/-- What the encoding of an instruction is made of: its parts and its code. `low` is 0 where the row has no register
number in its opcode byte. -/
structure Fields extends Parts where
  code : Code
  deriving DecidableEq, Repr

/-- The bytes of a direct address (R269). -/
def Moffs.bytes : Moffs → List Byte
  | .a16 a => leBytes 2 a.toNat
  | .a32 a => leBytes 4 a.toNat
  | .a64 a => leBytes 8 a.toNat

/-- The direct address that 2, 4 or 8 bytes hold (R269). -/
def Moffs.ofBytes (bs : List Byte) : Moffs :=
  if bs.length = 2 then .a16 (leBits 16 bs) else if bs.length = 4 then .a32 (leBits 32 bs) else .a64 (leBits 64 bs)

/-- The fields of an instruction. -/
def Instr.fields : Instr → Fields
  | .add_rm8_r8 p m => ⟨⟨.legacy p, 0, some m, []⟩, .Add_rm8_r8⟩
  | .add_rm16_r16 p m => ⟨⟨.legacy p, 0, some m, []⟩, .Add_rm16_r16⟩
  | .add_rm32_r32 p m => ⟨⟨.legacy p, 0, some m, []⟩, .Add_rm32_r32⟩
  | .add_rm64_r64 p m => ⟨⟨.legacy p, 0, some m, []⟩, .Add_rm64_r64⟩
  | .add_r8_rm8 p m => ⟨⟨.legacy p, 0, some m, []⟩, .Add_r8_rm8⟩
  | .add_r16_rm16 p m => ⟨⟨.legacy p, 0, some m, []⟩, .Add_r16_rm16⟩
  | .add_r32_rm32 p m => ⟨⟨.legacy p, 0, some m, []⟩, .Add_r32_rm32⟩
  | .add_r64_rm64 p m => ⟨⟨.legacy p, 0, some m, []⟩, .Add_r64_rm64⟩
  | .add_AL_imm8 p imm => ⟨⟨.legacy p, 0, none, leBytes 1 imm.toNat⟩, .Add_AL_imm8⟩
  | .add_AX_imm16 p imm => ⟨⟨.legacy p, 0, none, leBytes 2 imm.toNat⟩, .Add_AX_imm16⟩
  | .add_EAX_imm32 p imm => ⟨⟨.legacy p, 0, none, leBytes 4 imm.toNat⟩, .Add_EAX_imm32⟩
  | .add_RAX_imm32 p imm => ⟨⟨.legacy p, 0, none, leBytes 4 imm.toNat⟩, .Add_RAX_imm32⟩
  | .daa p => ⟨⟨.legacy p, 0, none, []⟩, .Daa⟩
  | .inc_r16 p low => ⟨⟨.legacy p, low, none, []⟩, .Inc_r16⟩
  | .inc_r32 p low => ⟨⟨.legacy p, low, none, []⟩, .Inc_r32⟩
  | .dec_r16 p low => ⟨⟨.legacy p, low, none, []⟩, .Dec_r16⟩
  | .dec_r32 p low => ⟨⟨.legacy p, low, none, []⟩, .Dec_r32⟩
  | .bound_r16_m1616 p m => ⟨⟨.legacy p, 0, some m, []⟩, .Bound_r16_m1616⟩
  | .bound_r32_m3232 p m => ⟨⟨.legacy p, 0, some m, []⟩, .Bound_r32_m3232⟩
  | .je_rel8_16 p rel => ⟨⟨.legacy p, 0, none, leBytes 1 rel.toNat⟩, .Je_rel8_16⟩
  | .je_rel8_32 p rel => ⟨⟨.legacy p, 0, none, leBytes 1 rel.toNat⟩, .Je_rel8_32⟩
  | .je_rel8_64 p rel => ⟨⟨.legacy p, 0, none, leBytes 1 rel.toNat⟩, .Je_rel8_64⟩
  | .add_rm8_imm8 p m imm => ⟨⟨.legacy p, 0, some m, leBytes 1 imm.toNat⟩, .Add_rm8_imm8⟩
  | .cmp_rm8_imm8 p m imm => ⟨⟨.legacy p, 0, some m, leBytes 1 imm.toNat⟩, .Cmp_rm8_imm8⟩
  | .add_rm16_imm16 p m imm => ⟨⟨.legacy p, 0, some m, leBytes 2 imm.toNat⟩, .Add_rm16_imm16⟩
  | .add_rm32_imm32 p m imm => ⟨⟨.legacy p, 0, some m, leBytes 4 imm.toNat⟩, .Add_rm32_imm32⟩
  | .add_rm64_imm32 p m imm => ⟨⟨.legacy p, 0, some m, leBytes 4 imm.toNat⟩, .Add_rm64_imm32⟩
  | .cmp_rm16_imm16 p m imm => ⟨⟨.legacy p, 0, some m, leBytes 2 imm.toNat⟩, .Cmp_rm16_imm16⟩
  | .cmp_rm32_imm32 p m imm => ⟨⟨.legacy p, 0, some m, leBytes 4 imm.toNat⟩, .Cmp_rm32_imm32⟩
  | .cmp_rm64_imm32 p m imm => ⟨⟨.legacy p, 0, some m, leBytes 4 imm.toNat⟩, .Cmp_rm64_imm32⟩
  | .add_rm16_imm8 p m imm => ⟨⟨.legacy p, 0, some m, leBytes 1 imm.toNat⟩, .Add_rm16_imm8⟩
  | .add_rm32_imm8 p m imm => ⟨⟨.legacy p, 0, some m, leBytes 1 imm.toNat⟩, .Add_rm32_imm8⟩
  | .add_rm64_imm8 p m imm => ⟨⟨.legacy p, 0, some m, leBytes 1 imm.toNat⟩, .Add_rm64_imm8⟩
  | .cmp_rm16_imm8 p m imm => ⟨⟨.legacy p, 0, some m, leBytes 1 imm.toNat⟩, .Cmp_rm16_imm8⟩
  | .cmp_rm32_imm8 p m imm => ⟨⟨.legacy p, 0, some m, leBytes 1 imm.toNat⟩, .Cmp_rm32_imm8⟩
  | .cmp_rm64_imm8 p m imm => ⟨⟨.legacy p, 0, some m, leBytes 1 imm.toNat⟩, .Cmp_rm64_imm8⟩
  | .mov_rm8_r8 p m => ⟨⟨.legacy p, 0, some m, []⟩, .Mov_rm8_r8⟩
  | .mov_rm16_r16 p m => ⟨⟨.legacy p, 0, some m, []⟩, .Mov_rm16_r16⟩
  | .mov_rm32_r32 p m => ⟨⟨.legacy p, 0, some m, []⟩, .Mov_rm32_r32⟩
  | .mov_rm64_r64 p m => ⟨⟨.legacy p, 0, some m, []⟩, .Mov_rm64_r64⟩
  | .mov_r8_rm8 p m => ⟨⟨.legacy p, 0, some m, []⟩, .Mov_r8_rm8⟩
  | .mov_r16_rm16 p m => ⟨⟨.legacy p, 0, some m, []⟩, .Mov_r16_rm16⟩
  | .mov_r32_rm32 p m => ⟨⟨.legacy p, 0, some m, []⟩, .Mov_r32_rm32⟩
  | .mov_r64_rm64 p m => ⟨⟨.legacy p, 0, some m, []⟩, .Mov_r64_rm64⟩
  | .lea_r16_m p m => ⟨⟨.legacy p, 0, some m, []⟩, .Lea_r16_m⟩
  | .lea_r32_m p m => ⟨⟨.legacy p, 0, some m, []⟩, .Lea_r32_m⟩
  | .lea_r64_m p m => ⟨⟨.legacy p, 0, some m, []⟩, .Lea_r64_m⟩
  | .mov_AL_moffs8 p a => ⟨⟨.legacy p, 0, none, a.bytes⟩, .Mov_AL_moffs8⟩
  | .mov_AX_moffs16 p a => ⟨⟨.legacy p, 0, none, a.bytes⟩, .Mov_AX_moffs16⟩
  | .mov_EAX_moffs32 p a => ⟨⟨.legacy p, 0, none, a.bytes⟩, .Mov_EAX_moffs32⟩
  | .mov_RAX_moffs64 p a => ⟨⟨.legacy p, 0, none, a.bytes⟩, .Mov_RAX_moffs64⟩
  | .mov_moffs8_AL p a => ⟨⟨.legacy p, 0, none, a.bytes⟩, .Mov_moffs8_AL⟩
  | .mov_moffs16_AX p a => ⟨⟨.legacy p, 0, none, a.bytes⟩, .Mov_moffs16_AX⟩
  | .mov_moffs32_EAX p a => ⟨⟨.legacy p, 0, none, a.bytes⟩, .Mov_moffs32_EAX⟩
  | .mov_moffs64_RAX p a => ⟨⟨.legacy p, 0, none, a.bytes⟩, .Mov_moffs64_RAX⟩
  | .mov_r8_imm8 p low imm => ⟨⟨.legacy p, low, none, leBytes 1 imm.toNat⟩, .Mov_r8_imm8⟩
  | .mov_r16_imm16 p low imm => ⟨⟨.legacy p, low, none, leBytes 2 imm.toNat⟩, .Mov_r16_imm16⟩
  | .mov_r32_imm32 p low imm => ⟨⟨.legacy p, low, none, leBytes 4 imm.toNat⟩, .Mov_r32_imm32⟩
  | .mov_r64_imm64 p low imm => ⟨⟨.legacy p, low, none, leBytes 8 imm.toNat⟩, .Mov_r64_imm64⟩
  | .les_r16_m1616 p m => ⟨⟨.legacy p, 0, some m, []⟩, .Les_r16_m1616⟩
  | .les_r32_m1632 p m => ⟨⟨.legacy p, 0, some m, []⟩, .Les_r32_m1632⟩
  | .lds_r16_m1616 p m => ⟨⟨.legacy p, 0, some m, []⟩, .Lds_r16_m1616⟩
  | .lds_r32_m1632 p m => ⟨⟨.legacy p, 0, some m, []⟩, .Lds_r32_m1632⟩
  | .int3 p => ⟨⟨.legacy p, 0, none, []⟩, .Int3⟩
  | .call_rel16 p rel => ⟨⟨.legacy p, 0, none, leBytes 2 rel.toNat⟩, .Call_rel16⟩
  | .call_rel32_32 p rel => ⟨⟨.legacy p, 0, none, leBytes 4 rel.toNat⟩, .Call_rel32_32⟩
  | .call_rel32_64 p rel => ⟨⟨.legacy p, 0, none, leBytes 4 rel.toNat⟩, .Call_rel32_64⟩
  | .jmp_rel16 p rel => ⟨⟨.legacy p, 0, none, leBytes 2 rel.toNat⟩, .Jmp_rel16⟩
  | .jmp_rel32_32 p rel => ⟨⟨.legacy p, 0, none, leBytes 4 rel.toNat⟩, .Jmp_rel32_32⟩
  | .jmp_rel32_64 p rel => ⟨⟨.legacy p, 0, none, leBytes 4 rel.toNat⟩, .Jmp_rel32_64⟩
  | .jmp_rel8_16 p rel => ⟨⟨.legacy p, 0, none, leBytes 1 rel.toNat⟩, .Jmp_rel8_16⟩
  | .jmp_rel8_32 p rel => ⟨⟨.legacy p, 0, none, leBytes 1 rel.toNat⟩, .Jmp_rel8_32⟩
  | .jmp_rel8_64 p rel => ⟨⟨.legacy p, 0, none, leBytes 1 rel.toNat⟩, .Jmp_rel8_64⟩
  | .hlt p => ⟨⟨.legacy p, 0, none, []⟩, .Hlt⟩
  | .inc_rm8 p m => ⟨⟨.legacy p, 0, some m, []⟩, .Inc_rm8⟩
  | .dec_rm8 p m => ⟨⟨.legacy p, 0, some m, []⟩, .Dec_rm8⟩
  | .inc_rm16 p m => ⟨⟨.legacy p, 0, some m, []⟩, .Inc_rm16⟩
  | .inc_rm32 p m => ⟨⟨.legacy p, 0, some m, []⟩, .Inc_rm32⟩
  | .inc_rm64 p m => ⟨⟨.legacy p, 0, some m, []⟩, .Inc_rm64⟩
  | .dec_rm16 p m => ⟨⟨.legacy p, 0, some m, []⟩, .Dec_rm16⟩
  | .dec_rm32 p m => ⟨⟨.legacy p, 0, some m, []⟩, .Dec_rm32⟩
  | .dec_rm64 p m => ⟨⟨.legacy p, 0, some m, []⟩, .Dec_rm64⟩
  | .syscall p => ⟨⟨.legacy p, 0, none, []⟩, .Syscall⟩
  | .addps_xmm_xmmm128 p m => ⟨⟨.legacy p, 0, some m, []⟩, .Addps_xmm_xmmm128⟩
  | .addpd_xmm_xmmm128 p m => ⟨⟨.legacy p, 0, some m, []⟩, .Addpd_xmm_xmmm128⟩
  | .addss_xmm_xmmm32 p m => ⟨⟨.legacy p, 0, some m, []⟩, .Addss_xmm_xmmm32⟩
  | .addsd_xmm_xmmm64 p m => ⟨⟨.legacy p, 0, some m, []⟩, .Addsd_xmm_xmmm64⟩
  | .punpcklbw_mm_mmm32 p m => ⟨⟨.legacy p, 0, some m, []⟩, .Punpcklbw_mm_mmm32⟩
  | .punpcklbw_xmm_xmmm128 p m => ⟨⟨.legacy p, 0, some m, []⟩, .Punpcklbw_xmm_xmmm128⟩
  | .punpcklwd_mm_mmm32 p m => ⟨⟨.legacy p, 0, some m, []⟩, .Punpcklwd_mm_mmm32⟩
  | .punpcklwd_xmm_xmmm128 p m => ⟨⟨.legacy p, 0, some m, []⟩, .Punpcklwd_xmm_xmmm128⟩
  | .punpckldq_mm_mmm32 p m => ⟨⟨.legacy p, 0, some m, []⟩, .Punpckldq_mm_mmm32⟩
  | .punpckldq_xmm_xmmm128 p m => ⟨⟨.legacy p, 0, some m, []⟩, .Punpckldq_xmm_xmmm128⟩
  | .packsswb_mm_mmm64 p m => ⟨⟨.legacy p, 0, some m, []⟩, .Packsswb_mm_mmm64⟩
  | .packsswb_xmm_xmmm128 p m => ⟨⟨.legacy p, 0, some m, []⟩, .Packsswb_xmm_xmmm128⟩
  | .pcmpgtb_mm_mmm64 p m => ⟨⟨.legacy p, 0, some m, []⟩, .Pcmpgtb_mm_mmm64⟩
  | .pcmpgtb_xmm_xmmm128 p m => ⟨⟨.legacy p, 0, some m, []⟩, .Pcmpgtb_xmm_xmmm128⟩
  | .pcmpgtw_mm_mmm64 p m => ⟨⟨.legacy p, 0, some m, []⟩, .Pcmpgtw_mm_mmm64⟩
  | .pcmpgtw_xmm_xmmm128 p m => ⟨⟨.legacy p, 0, some m, []⟩, .Pcmpgtw_xmm_xmmm128⟩
  | .pcmpgtd_mm_mmm64 p m => ⟨⟨.legacy p, 0, some m, []⟩, .Pcmpgtd_mm_mmm64⟩
  | .pcmpgtd_xmm_xmmm128 p m => ⟨⟨.legacy p, 0, some m, []⟩, .Pcmpgtd_xmm_xmmm128⟩
  | .packuswb_mm_mmm64 p m => ⟨⟨.legacy p, 0, some m, []⟩, .Packuswb_mm_mmm64⟩
  | .packuswb_xmm_xmmm128 p m => ⟨⟨.legacy p, 0, some m, []⟩, .Packuswb_xmm_xmmm128⟩
  | .movd_mm_rm32 p m => ⟨⟨.legacy p, 0, some m, []⟩, .Movd_mm_rm32⟩
  | .movq_mm_rm64 p m => ⟨⟨.legacy p, 0, some m, []⟩, .Movq_mm_rm64⟩
  | .movd_xmm_rm32 p m => ⟨⟨.legacy p, 0, some m, []⟩, .Movd_xmm_rm32⟩
  | .movq_xmm_rm64 p m => ⟨⟨.legacy p, 0, some m, []⟩, .Movq_xmm_rm64⟩
  | .je_rel16 p rel => ⟨⟨.legacy p, 0, none, leBytes 2 rel.toNat⟩, .Je_rel16⟩
  | .je_rel32_32 p rel => ⟨⟨.legacy p, 0, none, leBytes 4 rel.toNat⟩, .Je_rel32_32⟩
  | .je_rel32_64 p rel => ⟨⟨.legacy p, 0, none, leBytes 4 rel.toNat⟩, .Je_rel32_64⟩
  | .fxsave_m512byte p m => ⟨⟨.legacy p, 0, some m, []⟩, .Fxsave_m512byte⟩
  | .fxsave64_m512byte p m => ⟨⟨.legacy p, 0, some m, []⟩, .Fxsave64_m512byte⟩
  | .fxrstor_m512byte p m => ⟨⟨.legacy p, 0, some m, []⟩, .Fxrstor_m512byte⟩
  | .fxrstor64_m512byte p m => ⟨⟨.legacy p, 0, some m, []⟩, .Fxrstor64_m512byte⟩
  | .ldmxcsr_m32 p m => ⟨⟨.legacy p, 0, some m, []⟩, .Ldmxcsr_m32⟩
  | .stmxcsr_m32 p m => ⟨⟨.legacy p, 0, some m, []⟩, .Stmxcsr_m32⟩
  | .clflush_m8 p m => ⟨⟨.legacy p, 0, some m, []⟩, .Clflush_m8⟩
  | .lfence p m => ⟨⟨.legacy p, 0, some m, []⟩, .Lfence⟩
  | .mfence p m => ⟨⟨.legacy p, 0, some m, []⟩, .Mfence⟩
  | .sfence p m => ⟨⟨.legacy p, 0, some m, []⟩, .Sfence⟩
  | .vex_vaddps_xmm_xmm_xmmm128 p m => ⟨⟨.vex p, 0, some m, []⟩, .VEX_Vaddps_xmm_xmm_xmmm128⟩
  | .vex_vaddps_ymm_ymm_ymmm256 p m => ⟨⟨.vex p, 0, some m, []⟩, .VEX_Vaddps_ymm_ymm_ymmm256⟩
  | .vex_vaddpd_xmm_xmm_xmmm128 p m => ⟨⟨.vex p, 0, some m, []⟩, .VEX_Vaddpd_xmm_xmm_xmmm128⟩
  | .vex_vaddpd_ymm_ymm_ymmm256 p m => ⟨⟨.vex p, 0, some m, []⟩, .VEX_Vaddpd_ymm_ymm_ymmm256⟩
  | .vex_vaddss_xmm_xmm_xmmm32 p m => ⟨⟨.vex p, 0, some m, []⟩, .VEX_Vaddss_xmm_xmm_xmmm32⟩
  | .vex_vaddsd_xmm_xmm_xmmm64 p m => ⟨⟨.vex p, 0, some m, []⟩, .VEX_Vaddsd_xmm_xmm_xmmm64⟩
  | .vex_vpunpcklbw_xmm_xmm_xmmm128 p m => ⟨⟨.vex p, 0, some m, []⟩, .VEX_Vpunpcklbw_xmm_xmm_xmmm128⟩
  | .vex_vpunpcklbw_ymm_ymm_ymmm256 p m => ⟨⟨.vex p, 0, some m, []⟩, .VEX_Vpunpcklbw_ymm_ymm_ymmm256⟩
  | .vex_vpunpcklwd_xmm_xmm_xmmm128 p m => ⟨⟨.vex p, 0, some m, []⟩, .VEX_Vpunpcklwd_xmm_xmm_xmmm128⟩
  | .vex_vpunpcklwd_ymm_ymm_ymmm256 p m => ⟨⟨.vex p, 0, some m, []⟩, .VEX_Vpunpcklwd_ymm_ymm_ymmm256⟩
  | .vex_vpunpckldq_xmm_xmm_xmmm128 p m => ⟨⟨.vex p, 0, some m, []⟩, .VEX_Vpunpckldq_xmm_xmm_xmmm128⟩
  | .vex_vpunpckldq_ymm_ymm_ymmm256 p m => ⟨⟨.vex p, 0, some m, []⟩, .VEX_Vpunpckldq_ymm_ymm_ymmm256⟩
  | .vex_vpacksswb_xmm_xmm_xmmm128 p m => ⟨⟨.vex p, 0, some m, []⟩, .VEX_Vpacksswb_xmm_xmm_xmmm128⟩
  | .vex_vpacksswb_ymm_ymm_ymmm256 p m => ⟨⟨.vex p, 0, some m, []⟩, .VEX_Vpacksswb_ymm_ymm_ymmm256⟩
  | .vex_vpcmpgtb_xmm_xmm_xmmm128 p m => ⟨⟨.vex p, 0, some m, []⟩, .VEX_Vpcmpgtb_xmm_xmm_xmmm128⟩
  | .vex_vpcmpgtb_ymm_ymm_ymmm256 p m => ⟨⟨.vex p, 0, some m, []⟩, .VEX_Vpcmpgtb_ymm_ymm_ymmm256⟩
  | .vex_vpcmpgtw_xmm_xmm_xmmm128 p m => ⟨⟨.vex p, 0, some m, []⟩, .VEX_Vpcmpgtw_xmm_xmm_xmmm128⟩
  | .vex_vpcmpgtw_ymm_ymm_ymmm256 p m => ⟨⟨.vex p, 0, some m, []⟩, .VEX_Vpcmpgtw_ymm_ymm_ymmm256⟩
  | .vex_vpcmpgtd_xmm_xmm_xmmm128 p m => ⟨⟨.vex p, 0, some m, []⟩, .VEX_Vpcmpgtd_xmm_xmm_xmmm128⟩
  | .vex_vpcmpgtd_ymm_ymm_ymmm256 p m => ⟨⟨.vex p, 0, some m, []⟩, .VEX_Vpcmpgtd_ymm_ymm_ymmm256⟩
  | .vex_vpackuswb_xmm_xmm_xmmm128 p m => ⟨⟨.vex p, 0, some m, []⟩, .VEX_Vpackuswb_xmm_xmm_xmmm128⟩
  | .vex_vpackuswb_ymm_ymm_ymmm256 p m => ⟨⟨.vex p, 0, some m, []⟩, .VEX_Vpackuswb_ymm_ymm_ymmm256⟩
  | .evex_vaddps_xmm_k1z_xmm_xmmm128b32 p m => ⟨⟨.evex p, 0, some m, []⟩, .EVEX_Vaddps_xmm_k1z_xmm_xmmm128b32⟩
  | .evex_vaddps_ymm_k1z_ymm_ymmm256b32 p m => ⟨⟨.evex p, 0, some m, []⟩, .EVEX_Vaddps_ymm_k1z_ymm_ymmm256b32⟩
  | .evex_vaddps_zmm_k1z_zmm_zmmm512b32_er p m => ⟨⟨.evex p, 0, some m, []⟩, .EVEX_Vaddps_zmm_k1z_zmm_zmmm512b32_er⟩
  | .evex_vaddpd_xmm_k1z_xmm_xmmm128b64 p m => ⟨⟨.evex p, 0, some m, []⟩, .EVEX_Vaddpd_xmm_k1z_xmm_xmmm128b64⟩
  | .evex_vaddpd_ymm_k1z_ymm_ymmm256b64 p m => ⟨⟨.evex p, 0, some m, []⟩, .EVEX_Vaddpd_ymm_k1z_ymm_ymmm256b64⟩
  | .evex_vaddpd_zmm_k1z_zmm_zmmm512b64_er p m => ⟨⟨.evex p, 0, some m, []⟩, .EVEX_Vaddpd_zmm_k1z_zmm_zmmm512b64_er⟩
  | .evex_vaddss_xmm_k1z_xmm_xmmm32_er p m => ⟨⟨.evex p, 0, some m, []⟩, .EVEX_Vaddss_xmm_k1z_xmm_xmmm32_er⟩
  | .evex_vaddsd_xmm_k1z_xmm_xmmm64_er p m => ⟨⟨.evex p, 0, some m, []⟩, .EVEX_Vaddsd_xmm_k1z_xmm_xmmm64_er⟩
  | .evex_vmaxps_xmm_k1z_xmm_xmmm128b32 p m => ⟨⟨.evex p, 0, some m, []⟩, .EVEX_Vmaxps_xmm_k1z_xmm_xmmm128b32⟩
  | .evex_vmaxps_ymm_k1z_ymm_ymmm256b32 p m => ⟨⟨.evex p, 0, some m, []⟩, .EVEX_Vmaxps_ymm_k1z_ymm_ymmm256b32⟩
  | .evex_vmaxps_zmm_k1z_zmm_zmmm512b32_sae p m => ⟨⟨.evex p, 0, some m, []⟩, .EVEX_Vmaxps_zmm_k1z_zmm_zmmm512b32_sae⟩
  | .evex_vpunpcklbw_xmm_k1z_xmm_xmmm128 p m => ⟨⟨.evex p, 0, some m, []⟩, .EVEX_Vpunpcklbw_xmm_k1z_xmm_xmmm128⟩
  | .evex_vpunpcklbw_ymm_k1z_ymm_ymmm256 p m => ⟨⟨.evex p, 0, some m, []⟩, .EVEX_Vpunpcklbw_ymm_k1z_ymm_ymmm256⟩
  | .evex_vpunpcklbw_zmm_k1z_zmm_zmmm512 p m => ⟨⟨.evex p, 0, some m, []⟩, .EVEX_Vpunpcklbw_zmm_k1z_zmm_zmmm512⟩
  | .evex_vpunpcklwd_xmm_k1z_xmm_xmmm128 p m => ⟨⟨.evex p, 0, some m, []⟩, .EVEX_Vpunpcklwd_xmm_k1z_xmm_xmmm128⟩
  | .evex_vpunpcklwd_ymm_k1z_ymm_ymmm256 p m => ⟨⟨.evex p, 0, some m, []⟩, .EVEX_Vpunpcklwd_ymm_k1z_ymm_ymmm256⟩
  | .evex_vpunpcklwd_zmm_k1z_zmm_zmmm512 p m => ⟨⟨.evex p, 0, some m, []⟩, .EVEX_Vpunpcklwd_zmm_k1z_zmm_zmmm512⟩
  | .evex_vpunpckldq_xmm_k1z_xmm_xmmm128b32 p m => ⟨⟨.evex p, 0, some m, []⟩, .EVEX_Vpunpckldq_xmm_k1z_xmm_xmmm128b32⟩
  | .evex_vpunpckldq_ymm_k1z_ymm_ymmm256b32 p m => ⟨⟨.evex p, 0, some m, []⟩, .EVEX_Vpunpckldq_ymm_k1z_ymm_ymmm256b32⟩
  | .evex_vpunpckldq_zmm_k1z_zmm_zmmm512b32 p m => ⟨⟨.evex p, 0, some m, []⟩, .EVEX_Vpunpckldq_zmm_k1z_zmm_zmmm512b32⟩
  | .evex_vpacksswb_xmm_k1z_xmm_xmmm128 p m => ⟨⟨.evex p, 0, some m, []⟩, .EVEX_Vpacksswb_xmm_k1z_xmm_xmmm128⟩
  | .evex_vpacksswb_ymm_k1z_ymm_ymmm256 p m => ⟨⟨.evex p, 0, some m, []⟩, .EVEX_Vpacksswb_ymm_k1z_ymm_ymmm256⟩
  | .evex_vpacksswb_zmm_k1z_zmm_zmmm512 p m => ⟨⟨.evex p, 0, some m, []⟩, .EVEX_Vpacksswb_zmm_k1z_zmm_zmmm512⟩
  | .evex_vpcmpgtb_k_k1_xmm_xmmm128 p m => ⟨⟨.evex p, 0, some m, []⟩, .EVEX_Vpcmpgtb_k_k1_xmm_xmmm128⟩
  | .evex_vpcmpgtb_k_k1_ymm_ymmm256 p m => ⟨⟨.evex p, 0, some m, []⟩, .EVEX_Vpcmpgtb_k_k1_ymm_ymmm256⟩
  | .evex_vpcmpgtb_k_k1_zmm_zmmm512 p m => ⟨⟨.evex p, 0, some m, []⟩, .EVEX_Vpcmpgtb_k_k1_zmm_zmmm512⟩
  | .evex_vpcmpgtw_k_k1_xmm_xmmm128 p m => ⟨⟨.evex p, 0, some m, []⟩, .EVEX_Vpcmpgtw_k_k1_xmm_xmmm128⟩
  | .evex_vpcmpgtw_k_k1_ymm_ymmm256 p m => ⟨⟨.evex p, 0, some m, []⟩, .EVEX_Vpcmpgtw_k_k1_ymm_ymmm256⟩
  | .evex_vpcmpgtw_k_k1_zmm_zmmm512 p m => ⟨⟨.evex p, 0, some m, []⟩, .EVEX_Vpcmpgtw_k_k1_zmm_zmmm512⟩
  | .evex_vpcmpgtd_k_k1_xmm_xmmm128b32 p m => ⟨⟨.evex p, 0, some m, []⟩, .EVEX_Vpcmpgtd_k_k1_xmm_xmmm128b32⟩
  | .evex_vpcmpgtd_k_k1_ymm_ymmm256b32 p m => ⟨⟨.evex p, 0, some m, []⟩, .EVEX_Vpcmpgtd_k_k1_ymm_ymmm256b32⟩
  | .evex_vpcmpgtd_k_k1_zmm_zmmm512b32 p m => ⟨⟨.evex p, 0, some m, []⟩, .EVEX_Vpcmpgtd_k_k1_zmm_zmmm512b32⟩
  | .evex_vpackuswb_xmm_k1z_xmm_xmmm128 p m => ⟨⟨.evex p, 0, some m, []⟩, .EVEX_Vpackuswb_xmm_k1z_xmm_xmmm128⟩
  | .evex_vpackuswb_ymm_k1z_ymm_ymmm256 p m => ⟨⟨.evex p, 0, some m, []⟩, .EVEX_Vpackuswb_ymm_k1z_ymm_ymmm256⟩
  | .evex_vpackuswb_zmm_k1z_zmm_zmmm512 p m => ⟨⟨.evex p, 0, some m, []⟩, .EVEX_Vpackuswb_zmm_k1z_zmm_zmmm512⟩
  | .evex_vmovdqa32_xmm_k1z_xmmm128 p m => ⟨⟨.evex p, 0, some m, []⟩, .EVEX_Vmovdqa32_xmm_k1z_xmmm128⟩
  | .evex_vmovdqa32_ymm_k1z_ymmm256 p m => ⟨⟨.evex p, 0, some m, []⟩, .EVEX_Vmovdqa32_ymm_k1z_ymmm256⟩
  | .evex_vmovdqa32_zmm_k1z_zmmm512 p m => ⟨⟨.evex p, 0, some m, []⟩, .EVEX_Vmovdqa32_zmm_k1z_zmmm512⟩
  | .evex_vmovdqa64_xmm_k1z_xmmm128 p m => ⟨⟨.evex p, 0, some m, []⟩, .EVEX_Vmovdqa64_xmm_k1z_xmmm128⟩
  | .evex_vmovdqa64_ymm_k1z_ymmm256 p m => ⟨⟨.evex p, 0, some m, []⟩, .EVEX_Vmovdqa64_ymm_k1z_ymmm256⟩
  | .evex_vmovdqa64_zmm_k1z_zmmm512 p m => ⟨⟨.evex p, 0, some m, []⟩, .EVEX_Vmovdqa64_zmm_k1z_zmmm512⟩

/-- The code of an instruction (R47). -/
def Instr.code (i : Instr) : Code := i.fields.code

/-- The row of an instruction. -/
def Instr.row (i : Instr) : Row := i.code.row

/-- No legacy prefix and no REX. -/
def LegacyPrefix.zero : LegacyPrefix :=
  { has66 := false, has67 := false, seg := none, rep := none, lock := false, rex := none }

/-- A VEX part with every field zero (R26). -/
def VexPrefix.zero : VexPrefix :=
  { has67 := false, seg := none, lock := false, w := false, r := false, x := false, b := false, vvvv := 0, l := false }

/-- An EVEX part with every field zero (R26). -/
def EvexPrefix.zero : EvexPrefix :=
  { has67 := false, seg := none, lock := false, w := false, r := false, x := false, b := false, rp := false, vp := false,
    vvvv := 0, ll := 0, z := false, bcst := false, aaa := 0 }

/-- A ModRM part with every field zero. -/
def ModRM.zero : ModRM := { mod := 0, reg := 0, rm := 0, sib := none, disp := .none }

/-- The Legacy prefix part (of a Legacy encoding; zero for another space, where no row asks for it). -/
def Prefix.asLegacy : Prefix → LegacyPrefix
  | .legacy p => p
  | .vex _ => LegacyPrefix.zero
  | .evex _ => LegacyPrefix.zero

/-- The VEX part (of a VEX encoding). -/
def Prefix.asVex : Prefix → VexPrefix
  | .legacy _ => VexPrefix.zero
  | .vex p => p
  | .evex _ => VexPrefix.zero

/-- The EVEX part (of an EVEX encoding). -/
def Prefix.asEvex : Prefix → EvexPrefix
  | .legacy _ => EvexPrefix.zero
  | .vex _ => EvexPrefix.zero
  | .evex p => p

/-- The ModRM part; zero where the encoding has none (log entry 16). -/
def Parts.m (f : Parts) : ModRM := f.modrm.getD ModRM.zero

/-- The instruction of a row with these fields. -/
def Instr.build (f : Fields) : Instr :=
  match f.code with
  | .Add_rm8_r8 => .add_rm8_r8 f.pfx.asLegacy f.m
  | .Add_rm16_r16 => .add_rm16_r16 f.pfx.asLegacy f.m
  | .Add_rm32_r32 => .add_rm32_r32 f.pfx.asLegacy f.m
  | .Add_rm64_r64 => .add_rm64_r64 f.pfx.asLegacy f.m
  | .Add_r8_rm8 => .add_r8_rm8 f.pfx.asLegacy f.m
  | .Add_r16_rm16 => .add_r16_rm16 f.pfx.asLegacy f.m
  | .Add_r32_rm32 => .add_r32_rm32 f.pfx.asLegacy f.m
  | .Add_r64_rm64 => .add_r64_rm64 f.pfx.asLegacy f.m
  | .Add_AL_imm8 => .add_AL_imm8 f.pfx.asLegacy (leBits 8 f.trail)
  | .Add_AX_imm16 => .add_AX_imm16 f.pfx.asLegacy (leBits 16 f.trail)
  | .Add_EAX_imm32 => .add_EAX_imm32 f.pfx.asLegacy (leBits 32 f.trail)
  | .Add_RAX_imm32 => .add_RAX_imm32 f.pfx.asLegacy (leBits 32 f.trail)
  | .Daa => .daa f.pfx.asLegacy
  | .Inc_r16 => .inc_r16 f.pfx.asLegacy f.low
  | .Inc_r32 => .inc_r32 f.pfx.asLegacy f.low
  | .Dec_r16 => .dec_r16 f.pfx.asLegacy f.low
  | .Dec_r32 => .dec_r32 f.pfx.asLegacy f.low
  | .Bound_r16_m1616 => .bound_r16_m1616 f.pfx.asLegacy f.m
  | .Bound_r32_m3232 => .bound_r32_m3232 f.pfx.asLegacy f.m
  | .Je_rel8_16 => .je_rel8_16 f.pfx.asLegacy (leBits 8 f.trail)
  | .Je_rel8_32 => .je_rel8_32 f.pfx.asLegacy (leBits 8 f.trail)
  | .Je_rel8_64 => .je_rel8_64 f.pfx.asLegacy (leBits 8 f.trail)
  | .Add_rm8_imm8 => .add_rm8_imm8 f.pfx.asLegacy f.m (leBits 8 f.trail)
  | .Cmp_rm8_imm8 => .cmp_rm8_imm8 f.pfx.asLegacy f.m (leBits 8 f.trail)
  | .Add_rm16_imm16 => .add_rm16_imm16 f.pfx.asLegacy f.m (leBits 16 f.trail)
  | .Add_rm32_imm32 => .add_rm32_imm32 f.pfx.asLegacy f.m (leBits 32 f.trail)
  | .Add_rm64_imm32 => .add_rm64_imm32 f.pfx.asLegacy f.m (leBits 32 f.trail)
  | .Cmp_rm16_imm16 => .cmp_rm16_imm16 f.pfx.asLegacy f.m (leBits 16 f.trail)
  | .Cmp_rm32_imm32 => .cmp_rm32_imm32 f.pfx.asLegacy f.m (leBits 32 f.trail)
  | .Cmp_rm64_imm32 => .cmp_rm64_imm32 f.pfx.asLegacy f.m (leBits 32 f.trail)
  | .Add_rm16_imm8 => .add_rm16_imm8 f.pfx.asLegacy f.m (leBits 8 f.trail)
  | .Add_rm32_imm8 => .add_rm32_imm8 f.pfx.asLegacy f.m (leBits 8 f.trail)
  | .Add_rm64_imm8 => .add_rm64_imm8 f.pfx.asLegacy f.m (leBits 8 f.trail)
  | .Cmp_rm16_imm8 => .cmp_rm16_imm8 f.pfx.asLegacy f.m (leBits 8 f.trail)
  | .Cmp_rm32_imm8 => .cmp_rm32_imm8 f.pfx.asLegacy f.m (leBits 8 f.trail)
  | .Cmp_rm64_imm8 => .cmp_rm64_imm8 f.pfx.asLegacy f.m (leBits 8 f.trail)
  | .Mov_rm8_r8 => .mov_rm8_r8 f.pfx.asLegacy f.m
  | .Mov_rm16_r16 => .mov_rm16_r16 f.pfx.asLegacy f.m
  | .Mov_rm32_r32 => .mov_rm32_r32 f.pfx.asLegacy f.m
  | .Mov_rm64_r64 => .mov_rm64_r64 f.pfx.asLegacy f.m
  | .Mov_r8_rm8 => .mov_r8_rm8 f.pfx.asLegacy f.m
  | .Mov_r16_rm16 => .mov_r16_rm16 f.pfx.asLegacy f.m
  | .Mov_r32_rm32 => .mov_r32_rm32 f.pfx.asLegacy f.m
  | .Mov_r64_rm64 => .mov_r64_rm64 f.pfx.asLegacy f.m
  | .Lea_r16_m => .lea_r16_m f.pfx.asLegacy f.m
  | .Lea_r32_m => .lea_r32_m f.pfx.asLegacy f.m
  | .Lea_r64_m => .lea_r64_m f.pfx.asLegacy f.m
  | .Mov_AL_moffs8 => .mov_AL_moffs8 f.pfx.asLegacy (Moffs.ofBytes f.trail)
  | .Mov_AX_moffs16 => .mov_AX_moffs16 f.pfx.asLegacy (Moffs.ofBytes f.trail)
  | .Mov_EAX_moffs32 => .mov_EAX_moffs32 f.pfx.asLegacy (Moffs.ofBytes f.trail)
  | .Mov_RAX_moffs64 => .mov_RAX_moffs64 f.pfx.asLegacy (Moffs.ofBytes f.trail)
  | .Mov_moffs8_AL => .mov_moffs8_AL f.pfx.asLegacy (Moffs.ofBytes f.trail)
  | .Mov_moffs16_AX => .mov_moffs16_AX f.pfx.asLegacy (Moffs.ofBytes f.trail)
  | .Mov_moffs32_EAX => .mov_moffs32_EAX f.pfx.asLegacy (Moffs.ofBytes f.trail)
  | .Mov_moffs64_RAX => .mov_moffs64_RAX f.pfx.asLegacy (Moffs.ofBytes f.trail)
  | .Mov_r8_imm8 => .mov_r8_imm8 f.pfx.asLegacy f.low (leBits 8 f.trail)
  | .Mov_r16_imm16 => .mov_r16_imm16 f.pfx.asLegacy f.low (leBits 16 f.trail)
  | .Mov_r32_imm32 => .mov_r32_imm32 f.pfx.asLegacy f.low (leBits 32 f.trail)
  | .Mov_r64_imm64 => .mov_r64_imm64 f.pfx.asLegacy f.low (leBits 64 f.trail)
  | .Les_r16_m1616 => .les_r16_m1616 f.pfx.asLegacy f.m
  | .Les_r32_m1632 => .les_r32_m1632 f.pfx.asLegacy f.m
  | .Lds_r16_m1616 => .lds_r16_m1616 f.pfx.asLegacy f.m
  | .Lds_r32_m1632 => .lds_r32_m1632 f.pfx.asLegacy f.m
  | .Int3 => .int3 f.pfx.asLegacy
  | .Call_rel16 => .call_rel16 f.pfx.asLegacy (leBits 16 f.trail)
  | .Call_rel32_32 => .call_rel32_32 f.pfx.asLegacy (leBits 32 f.trail)
  | .Call_rel32_64 => .call_rel32_64 f.pfx.asLegacy (leBits 32 f.trail)
  | .Jmp_rel16 => .jmp_rel16 f.pfx.asLegacy (leBits 16 f.trail)
  | .Jmp_rel32_32 => .jmp_rel32_32 f.pfx.asLegacy (leBits 32 f.trail)
  | .Jmp_rel32_64 => .jmp_rel32_64 f.pfx.asLegacy (leBits 32 f.trail)
  | .Jmp_rel8_16 => .jmp_rel8_16 f.pfx.asLegacy (leBits 8 f.trail)
  | .Jmp_rel8_32 => .jmp_rel8_32 f.pfx.asLegacy (leBits 8 f.trail)
  | .Jmp_rel8_64 => .jmp_rel8_64 f.pfx.asLegacy (leBits 8 f.trail)
  | .Hlt => .hlt f.pfx.asLegacy
  | .Inc_rm8 => .inc_rm8 f.pfx.asLegacy f.m
  | .Dec_rm8 => .dec_rm8 f.pfx.asLegacy f.m
  | .Inc_rm16 => .inc_rm16 f.pfx.asLegacy f.m
  | .Inc_rm32 => .inc_rm32 f.pfx.asLegacy f.m
  | .Inc_rm64 => .inc_rm64 f.pfx.asLegacy f.m
  | .Dec_rm16 => .dec_rm16 f.pfx.asLegacy f.m
  | .Dec_rm32 => .dec_rm32 f.pfx.asLegacy f.m
  | .Dec_rm64 => .dec_rm64 f.pfx.asLegacy f.m
  | .Syscall => .syscall f.pfx.asLegacy
  | .Addps_xmm_xmmm128 => .addps_xmm_xmmm128 f.pfx.asLegacy f.m
  | .Addpd_xmm_xmmm128 => .addpd_xmm_xmmm128 f.pfx.asLegacy f.m
  | .Addss_xmm_xmmm32 => .addss_xmm_xmmm32 f.pfx.asLegacy f.m
  | .Addsd_xmm_xmmm64 => .addsd_xmm_xmmm64 f.pfx.asLegacy f.m
  | .Punpcklbw_mm_mmm32 => .punpcklbw_mm_mmm32 f.pfx.asLegacy f.m
  | .Punpcklbw_xmm_xmmm128 => .punpcklbw_xmm_xmmm128 f.pfx.asLegacy f.m
  | .Punpcklwd_mm_mmm32 => .punpcklwd_mm_mmm32 f.pfx.asLegacy f.m
  | .Punpcklwd_xmm_xmmm128 => .punpcklwd_xmm_xmmm128 f.pfx.asLegacy f.m
  | .Punpckldq_mm_mmm32 => .punpckldq_mm_mmm32 f.pfx.asLegacy f.m
  | .Punpckldq_xmm_xmmm128 => .punpckldq_xmm_xmmm128 f.pfx.asLegacy f.m
  | .Packsswb_mm_mmm64 => .packsswb_mm_mmm64 f.pfx.asLegacy f.m
  | .Packsswb_xmm_xmmm128 => .packsswb_xmm_xmmm128 f.pfx.asLegacy f.m
  | .Pcmpgtb_mm_mmm64 => .pcmpgtb_mm_mmm64 f.pfx.asLegacy f.m
  | .Pcmpgtb_xmm_xmmm128 => .pcmpgtb_xmm_xmmm128 f.pfx.asLegacy f.m
  | .Pcmpgtw_mm_mmm64 => .pcmpgtw_mm_mmm64 f.pfx.asLegacy f.m
  | .Pcmpgtw_xmm_xmmm128 => .pcmpgtw_xmm_xmmm128 f.pfx.asLegacy f.m
  | .Pcmpgtd_mm_mmm64 => .pcmpgtd_mm_mmm64 f.pfx.asLegacy f.m
  | .Pcmpgtd_xmm_xmmm128 => .pcmpgtd_xmm_xmmm128 f.pfx.asLegacy f.m
  | .Packuswb_mm_mmm64 => .packuswb_mm_mmm64 f.pfx.asLegacy f.m
  | .Packuswb_xmm_xmmm128 => .packuswb_xmm_xmmm128 f.pfx.asLegacy f.m
  | .Movd_mm_rm32 => .movd_mm_rm32 f.pfx.asLegacy f.m
  | .Movq_mm_rm64 => .movq_mm_rm64 f.pfx.asLegacy f.m
  | .Movd_xmm_rm32 => .movd_xmm_rm32 f.pfx.asLegacy f.m
  | .Movq_xmm_rm64 => .movq_xmm_rm64 f.pfx.asLegacy f.m
  | .Je_rel16 => .je_rel16 f.pfx.asLegacy (leBits 16 f.trail)
  | .Je_rel32_32 => .je_rel32_32 f.pfx.asLegacy (leBits 32 f.trail)
  | .Je_rel32_64 => .je_rel32_64 f.pfx.asLegacy (leBits 32 f.trail)
  | .Fxsave_m512byte => .fxsave_m512byte f.pfx.asLegacy f.m
  | .Fxsave64_m512byte => .fxsave64_m512byte f.pfx.asLegacy f.m
  | .Fxrstor_m512byte => .fxrstor_m512byte f.pfx.asLegacy f.m
  | .Fxrstor64_m512byte => .fxrstor64_m512byte f.pfx.asLegacy f.m
  | .Ldmxcsr_m32 => .ldmxcsr_m32 f.pfx.asLegacy f.m
  | .Stmxcsr_m32 => .stmxcsr_m32 f.pfx.asLegacy f.m
  | .Clflush_m8 => .clflush_m8 f.pfx.asLegacy f.m
  | .Lfence => .lfence f.pfx.asLegacy f.m
  | .Mfence => .mfence f.pfx.asLegacy f.m
  | .Sfence => .sfence f.pfx.asLegacy f.m
  | .VEX_Vaddps_xmm_xmm_xmmm128 => .vex_vaddps_xmm_xmm_xmmm128 f.pfx.asVex f.m
  | .VEX_Vaddps_ymm_ymm_ymmm256 => .vex_vaddps_ymm_ymm_ymmm256 f.pfx.asVex f.m
  | .VEX_Vaddpd_xmm_xmm_xmmm128 => .vex_vaddpd_xmm_xmm_xmmm128 f.pfx.asVex f.m
  | .VEX_Vaddpd_ymm_ymm_ymmm256 => .vex_vaddpd_ymm_ymm_ymmm256 f.pfx.asVex f.m
  | .VEX_Vaddss_xmm_xmm_xmmm32 => .vex_vaddss_xmm_xmm_xmmm32 f.pfx.asVex f.m
  | .VEX_Vaddsd_xmm_xmm_xmmm64 => .vex_vaddsd_xmm_xmm_xmmm64 f.pfx.asVex f.m
  | .VEX_Vpunpcklbw_xmm_xmm_xmmm128 => .vex_vpunpcklbw_xmm_xmm_xmmm128 f.pfx.asVex f.m
  | .VEX_Vpunpcklbw_ymm_ymm_ymmm256 => .vex_vpunpcklbw_ymm_ymm_ymmm256 f.pfx.asVex f.m
  | .VEX_Vpunpcklwd_xmm_xmm_xmmm128 => .vex_vpunpcklwd_xmm_xmm_xmmm128 f.pfx.asVex f.m
  | .VEX_Vpunpcklwd_ymm_ymm_ymmm256 => .vex_vpunpcklwd_ymm_ymm_ymmm256 f.pfx.asVex f.m
  | .VEX_Vpunpckldq_xmm_xmm_xmmm128 => .vex_vpunpckldq_xmm_xmm_xmmm128 f.pfx.asVex f.m
  | .VEX_Vpunpckldq_ymm_ymm_ymmm256 => .vex_vpunpckldq_ymm_ymm_ymmm256 f.pfx.asVex f.m
  | .VEX_Vpacksswb_xmm_xmm_xmmm128 => .vex_vpacksswb_xmm_xmm_xmmm128 f.pfx.asVex f.m
  | .VEX_Vpacksswb_ymm_ymm_ymmm256 => .vex_vpacksswb_ymm_ymm_ymmm256 f.pfx.asVex f.m
  | .VEX_Vpcmpgtb_xmm_xmm_xmmm128 => .vex_vpcmpgtb_xmm_xmm_xmmm128 f.pfx.asVex f.m
  | .VEX_Vpcmpgtb_ymm_ymm_ymmm256 => .vex_vpcmpgtb_ymm_ymm_ymmm256 f.pfx.asVex f.m
  | .VEX_Vpcmpgtw_xmm_xmm_xmmm128 => .vex_vpcmpgtw_xmm_xmm_xmmm128 f.pfx.asVex f.m
  | .VEX_Vpcmpgtw_ymm_ymm_ymmm256 => .vex_vpcmpgtw_ymm_ymm_ymmm256 f.pfx.asVex f.m
  | .VEX_Vpcmpgtd_xmm_xmm_xmmm128 => .vex_vpcmpgtd_xmm_xmm_xmmm128 f.pfx.asVex f.m
  | .VEX_Vpcmpgtd_ymm_ymm_ymmm256 => .vex_vpcmpgtd_ymm_ymm_ymmm256 f.pfx.asVex f.m
  | .VEX_Vpackuswb_xmm_xmm_xmmm128 => .vex_vpackuswb_xmm_xmm_xmmm128 f.pfx.asVex f.m
  | .VEX_Vpackuswb_ymm_ymm_ymmm256 => .vex_vpackuswb_ymm_ymm_ymmm256 f.pfx.asVex f.m
  | .EVEX_Vaddps_xmm_k1z_xmm_xmmm128b32 => .evex_vaddps_xmm_k1z_xmm_xmmm128b32 f.pfx.asEvex f.m
  | .EVEX_Vaddps_ymm_k1z_ymm_ymmm256b32 => .evex_vaddps_ymm_k1z_ymm_ymmm256b32 f.pfx.asEvex f.m
  | .EVEX_Vaddps_zmm_k1z_zmm_zmmm512b32_er => .evex_vaddps_zmm_k1z_zmm_zmmm512b32_er f.pfx.asEvex f.m
  | .EVEX_Vaddpd_xmm_k1z_xmm_xmmm128b64 => .evex_vaddpd_xmm_k1z_xmm_xmmm128b64 f.pfx.asEvex f.m
  | .EVEX_Vaddpd_ymm_k1z_ymm_ymmm256b64 => .evex_vaddpd_ymm_k1z_ymm_ymmm256b64 f.pfx.asEvex f.m
  | .EVEX_Vaddpd_zmm_k1z_zmm_zmmm512b64_er => .evex_vaddpd_zmm_k1z_zmm_zmmm512b64_er f.pfx.asEvex f.m
  | .EVEX_Vaddss_xmm_k1z_xmm_xmmm32_er => .evex_vaddss_xmm_k1z_xmm_xmmm32_er f.pfx.asEvex f.m
  | .EVEX_Vaddsd_xmm_k1z_xmm_xmmm64_er => .evex_vaddsd_xmm_k1z_xmm_xmmm64_er f.pfx.asEvex f.m
  | .EVEX_Vmaxps_xmm_k1z_xmm_xmmm128b32 => .evex_vmaxps_xmm_k1z_xmm_xmmm128b32 f.pfx.asEvex f.m
  | .EVEX_Vmaxps_ymm_k1z_ymm_ymmm256b32 => .evex_vmaxps_ymm_k1z_ymm_ymmm256b32 f.pfx.asEvex f.m
  | .EVEX_Vmaxps_zmm_k1z_zmm_zmmm512b32_sae => .evex_vmaxps_zmm_k1z_zmm_zmmm512b32_sae f.pfx.asEvex f.m
  | .EVEX_Vpunpcklbw_xmm_k1z_xmm_xmmm128 => .evex_vpunpcklbw_xmm_k1z_xmm_xmmm128 f.pfx.asEvex f.m
  | .EVEX_Vpunpcklbw_ymm_k1z_ymm_ymmm256 => .evex_vpunpcklbw_ymm_k1z_ymm_ymmm256 f.pfx.asEvex f.m
  | .EVEX_Vpunpcklbw_zmm_k1z_zmm_zmmm512 => .evex_vpunpcklbw_zmm_k1z_zmm_zmmm512 f.pfx.asEvex f.m
  | .EVEX_Vpunpcklwd_xmm_k1z_xmm_xmmm128 => .evex_vpunpcklwd_xmm_k1z_xmm_xmmm128 f.pfx.asEvex f.m
  | .EVEX_Vpunpcklwd_ymm_k1z_ymm_ymmm256 => .evex_vpunpcklwd_ymm_k1z_ymm_ymmm256 f.pfx.asEvex f.m
  | .EVEX_Vpunpcklwd_zmm_k1z_zmm_zmmm512 => .evex_vpunpcklwd_zmm_k1z_zmm_zmmm512 f.pfx.asEvex f.m
  | .EVEX_Vpunpckldq_xmm_k1z_xmm_xmmm128b32 => .evex_vpunpckldq_xmm_k1z_xmm_xmmm128b32 f.pfx.asEvex f.m
  | .EVEX_Vpunpckldq_ymm_k1z_ymm_ymmm256b32 => .evex_vpunpckldq_ymm_k1z_ymm_ymmm256b32 f.pfx.asEvex f.m
  | .EVEX_Vpunpckldq_zmm_k1z_zmm_zmmm512b32 => .evex_vpunpckldq_zmm_k1z_zmm_zmmm512b32 f.pfx.asEvex f.m
  | .EVEX_Vpacksswb_xmm_k1z_xmm_xmmm128 => .evex_vpacksswb_xmm_k1z_xmm_xmmm128 f.pfx.asEvex f.m
  | .EVEX_Vpacksswb_ymm_k1z_ymm_ymmm256 => .evex_vpacksswb_ymm_k1z_ymm_ymmm256 f.pfx.asEvex f.m
  | .EVEX_Vpacksswb_zmm_k1z_zmm_zmmm512 => .evex_vpacksswb_zmm_k1z_zmm_zmmm512 f.pfx.asEvex f.m
  | .EVEX_Vpcmpgtb_k_k1_xmm_xmmm128 => .evex_vpcmpgtb_k_k1_xmm_xmmm128 f.pfx.asEvex f.m
  | .EVEX_Vpcmpgtb_k_k1_ymm_ymmm256 => .evex_vpcmpgtb_k_k1_ymm_ymmm256 f.pfx.asEvex f.m
  | .EVEX_Vpcmpgtb_k_k1_zmm_zmmm512 => .evex_vpcmpgtb_k_k1_zmm_zmmm512 f.pfx.asEvex f.m
  | .EVEX_Vpcmpgtw_k_k1_xmm_xmmm128 => .evex_vpcmpgtw_k_k1_xmm_xmmm128 f.pfx.asEvex f.m
  | .EVEX_Vpcmpgtw_k_k1_ymm_ymmm256 => .evex_vpcmpgtw_k_k1_ymm_ymmm256 f.pfx.asEvex f.m
  | .EVEX_Vpcmpgtw_k_k1_zmm_zmmm512 => .evex_vpcmpgtw_k_k1_zmm_zmmm512 f.pfx.asEvex f.m
  | .EVEX_Vpcmpgtd_k_k1_xmm_xmmm128b32 => .evex_vpcmpgtd_k_k1_xmm_xmmm128b32 f.pfx.asEvex f.m
  | .EVEX_Vpcmpgtd_k_k1_ymm_ymmm256b32 => .evex_vpcmpgtd_k_k1_ymm_ymmm256b32 f.pfx.asEvex f.m
  | .EVEX_Vpcmpgtd_k_k1_zmm_zmmm512b32 => .evex_vpcmpgtd_k_k1_zmm_zmmm512b32 f.pfx.asEvex f.m
  | .EVEX_Vpackuswb_xmm_k1z_xmm_xmmm128 => .evex_vpackuswb_xmm_k1z_xmm_xmmm128 f.pfx.asEvex f.m
  | .EVEX_Vpackuswb_ymm_k1z_ymm_ymmm256 => .evex_vpackuswb_ymm_k1z_ymm_ymmm256 f.pfx.asEvex f.m
  | .EVEX_Vpackuswb_zmm_k1z_zmm_zmmm512 => .evex_vpackuswb_zmm_k1z_zmm_zmmm512 f.pfx.asEvex f.m
  | .EVEX_Vmovdqa32_xmm_k1z_xmmm128 => .evex_vmovdqa32_xmm_k1z_xmmm128 f.pfx.asEvex f.m
  | .EVEX_Vmovdqa32_ymm_k1z_ymmm256 => .evex_vmovdqa32_ymm_k1z_ymmm256 f.pfx.asEvex f.m
  | .EVEX_Vmovdqa32_zmm_k1z_zmmm512 => .evex_vmovdqa32_zmm_k1z_zmmm512 f.pfx.asEvex f.m
  | .EVEX_Vmovdqa64_xmm_k1z_xmmm128 => .evex_vmovdqa64_xmm_k1z_xmmm128 f.pfx.asEvex f.m
  | .EVEX_Vmovdqa64_ymm_k1z_ymmm256 => .evex_vmovdqa64_ymm_k1z_ymmm256 f.pfx.asEvex f.m
  | .EVEX_Vmovdqa64_zmm_k1z_zmmm512 => .evex_vmovdqa64_zmm_k1z_zmmm512 f.pfx.asEvex f.m

end Sys2Proof
end

