-- ==== Sys2Proof/Machine/Policy.lean ====
section
/-! DEFINITION. The Bitness Policy (spec R310 to R319): effective operand and address size, and what they and the mode make
of the bytes after a ModRM byte; and the uniform view of a prefix part that the later stages read. -/

namespace Sys2Proof

/-- Effective operand size (R311). -/
def opSize (b : Bitness) (w has66 : Bool) : OpSize :=
  match b with
  | .b16 => if has66 then .o32 else .o16
  | .b32 => if has66 then .o16 else .o32
  | .b64 => if w then .o64 else if has66 then .o16 else .o32

/-- Effective address size (R312). -/
def addrSize (b : Bitness) (has67 : Bool) : AddrSize :=
  match b with
  | .b16 => if has67 then .a32 else .a16
  | .b32 => if has67 then .a16 else .a32
  | .b64 => if has67 then .a32 else .a64

/-- Bytes of an address of this size (R269). -/
def AddrSize.bytes : AddrSize → Nat
  | .a16 => 2
  | .a32 => 4
  | .a64 => 8

/-- Bits of an address of this size. -/
def AddrSize.bits (a : AddrSize) : Nat := 8 * a.bytes

/-- The mandatory-prefix value of a Legacy encoding: F2h or F3h (the last scanned) over 66h (R172). -/
def legacyMp (rep : Option Rep) (has66 : Bool) : MandPfx :=
  match rep with
  | some .F3 => .pF3
  | some .F2 => .pF2
  | none => if has66 then .p66 else .NP

/-- The mandatory-prefix value of a VEX or EVEX `pp` field (R103, R173). -/
def ppMp (pp : BitVec 2) : MandPfx :=
  if pp = 0 then .NP else if pp = 1 then .p66 else if pp = 2 then .pF3 else .pF2

/-- The `pp` field of a mandatory-prefix value (R103). -/
def mpPp : MandPfx → BitVec 2
  | .NP => 0
  | .p66 => 1
  | .pF3 => 2
  | .pF2 => 3

/-- Vector length of a VEX `L` bit (R103, R196). -/
def vexLen (l : Bool) : VecLen := if l then .l256 else .l128

/-- Vector length of an EVEX `L'L` field; 3 is no length (R103, R196). -/
def evexLen (ll : BitVec 2) : Option VecLen :=
  if ll = 0 then some .l128 else if ll = 1 then some .l256 else if ll = 2 then some .l512 else none

/-- A SIB byte follows the ModRM byte: 32/64-bit addressing, a memory form, rm = 100 (R229). -/
def sibFollows (a : AddrSize) (mod : BitVec 2) (rm : BitVec 3) : Bool :=
  a != .a16 && mod != 3 && rm == 4

/-- Bytes of displacement after ModRM and SIB (R225, R233); `bs` is the SIB base field when there is a SIB byte. -/
def dispLength (a : AddrSize) (mod : BitVec 2) (rm : BitVec 3) (bs : Option (BitVec 3)) : Nat :=
  if mod = 3 then 0
  else if mod = 1 then 1
  else match a with
    | .a16 => if mod = 2 then 2 else if rm = 6 then 2 else 0
    | .a32 | .a64 => if mod = 2 then 4 else if rm = 5 then 4 else if bs = some 5 then 4 else 0

/-- Bytes of a displacement field. -/
def Disp.size : Disp → Nat
  | .none => 0
  | .d8 _ => 1
  | .d16 _ => 2
  | .d32 _ => 4

/-- Bytes that a declared operand shape reads after ModRM, SIB and displacement (R267 to R269, R271). -/
def shapeBytes (a : AddrSize) : Shape → Nat
  | .imm n _ _ => n
  | .rel n _ => n
  | .moffs => a.bytes
  | .reg _ => 0
  | .rm _ => 0
  | .mem => 0
  | .vvvv _ => 0
  | .opreg _ => 0
  | .fixed _ => 0

/-- Bytes of the trailing field of a row (R111). -/
def trailLength (a : AddrSize) (ops : List Shape) : Nat := (ops.map (shapeBytes a)).sum

/-- The row has an operand filled from `vvvv` (R199). -/
def Row.hasVvvv (r : Row) : Bool := r.ops.any fun s => match s with
  | .vvvv _ => true
  | _ => false

/-- The row has an operand `reg(k)` (R199). -/
def Row.hasRegK (r : Row) : Bool := r.ops.any fun s => match s with
  | .reg .k => true
  | _ => false

/-- Encoding space of a prefix part. -/
def Prefix.space : Prefix → Space
  | .legacy _ => .legacy
  | .vex _ => .vex
  | .evex _ => .evex

/-- `PS.has66`: 0 under VEX and EVEX (R170, R173). -/
def Prefix.has66 : Prefix → Bool
  | .legacy p => p.has66
  | .vex _ => false
  | .evex _ => false

/-- `PS.has67`. -/
def Prefix.has67 : Prefix → Bool
  | .legacy p => p.has67
  | .vex p => p.has67
  | .evex p => p.has67

/-- `PS.seg`. -/
def Prefix.seg : Prefix → Option SegReg
  | .legacy p => p.seg
  | .vex p => p.seg
  | .evex p => p.seg

/-- `PS.rep`: `None` under VEX and EVEX (R170, R173). -/
def Prefix.rep : Prefix → Option Rep
  | .legacy p => p.rep
  | .vex _ => none
  | .evex _ => none

/-- `PS.lock`. -/
def Prefix.lock : Prefix → Bool
  | .legacy p => p.lock
  | .vex p => p.lock
  | .evex p => p.lock

/-- `PS.rex_present`: 0 under VEX and EVEX (R28). -/
def Prefix.rexPresent : Prefix → Bool
  | .legacy p => p.rex.isSome
  | .vex _ => false
  | .evex _ => false

/-- `PS.W` (R27, R28). -/
def Prefix.w : Prefix → Bool
  | .legacy p => match p.rex with
    | some x => x.w
    | none => false
  | .vex p => p.w
  | .evex p => p.w

/-- `PS.R` (R27, R28). -/
def Prefix.r : Prefix → Bool
  | .legacy p => match p.rex with
    | some x => x.r
    | none => false
  | .vex p => p.r
  | .evex p => p.r

/-- `PS.X` (R27, R28). -/
def Prefix.x : Prefix → Bool
  | .legacy p => match p.rex with
    | some x => x.x
    | none => false
  | .vex p => p.x
  | .evex p => p.x

/-- `PS.B` (R27, R28). -/
def Prefix.b : Prefix → Bool
  | .legacy p => match p.rex with
    | some x => x.b
    | none => false
  | .vex p => p.b
  | .evex p => p.b

/-- `PS.Rp`: 0 outside EVEX (R28). -/
def Prefix.rp : Prefix → Bool
  | .legacy _ => false
  | .vex _ => false
  | .evex p => p.rp

/-- `PS.Vp`: 0 outside EVEX (R28). -/
def Prefix.vp : Prefix → Bool
  | .legacy _ => false
  | .vex _ => false
  | .evex p => p.vp

/-- `PS.vvvv`: 0 under Legacy (R26). -/
def Prefix.vvvv : Prefix → BitVec 4
  | .legacy _ => 0
  | .vex p => p.vvvv
  | .evex p => p.vvvv

/-- `PS.bcst`: 0 outside EVEX (R28). -/
def Prefix.bcst : Prefix → Bool
  | .legacy _ => false
  | .vex _ => false
  | .evex p => p.bcst

/-- The effective operand size of an encoding. -/
def Prefix.opSize (p : Prefix) (b : Bitness) : OpSize := Sys2Proof.opSize b p.w p.has66

/-- The effective address size of an encoding. -/
def Prefix.addrSize (p : Prefix) (b : Bitness) : AddrSize := Sys2Proof.addrSize b p.has67

end Sys2Proof
end

