-- ==== Sys2Proof/WellFormed.lean ====
section
/-! DEFINITION. When an instruction is one that some byte sequence decodes to in a mode: the checks of the scanner, the
dispatcher and the resolver, read as conditions on the fields, one Bool per check; and when a content of `TEMPLATE_ROM` is
admissible (R203). -/

namespace Sys2Proof

/-- The row exists in this mode (R197, R318). -/
def wfMode (b : Bitness) (r : Row) : Bool := r.bitness.contains b

/-- REX exists only in 64-bit mode (R162, R313). -/
def wfRex (b : Bitness) (p : Prefix) : Bool := b == .b64 || !p.rexPresent

/-- No extension bit of VEX or EVEX outside 64-bit mode (R171, R315). -/
def wfExt (b : Bitness) (p : Prefix) : Bool :=
  b == .b64 || !(p.r || p.x || p.b || p.rp || p.vp || p.vvvv.getLsbD 3)

/-- The mandatory prefix of a Legacy row (R172, R195); under VEX and EVEX the row itself fixes `pp` (R173). -/
def wfMandPfx (r : Row) (p : Prefix) : Bool :=
  p.space != .legacy || r.mp.all (· == legacyMp p.rep p.has66)

/-- The operand-size key (R195, R311). -/
def wfOpSize (b : Bitness) (r : Row) (p : Prefix) : Bool := r.osz.all (· == p.opSize b)

/-- The `W` key (R195). -/
def wfW (r : Row) (p : Prefix) : Bool := r.w.all (· == p.w)

/-- The ModRM.reg key (R195). -/
def wfReg (r : Row) (m : ModRM) : Bool := r.reg.all (· == m.reg)

/-- The ModRM.mod key (R195). -/
def wfMod (r : Row) (m : ModRM) : Bool := r.mod.all fun c => match c with
  | .mem => m.mod != 3
  | .reg => m.mod == 3

/-- The vector-length key (R196, R296): a register-only EVEX form with `b` = 1 needs the 512-bit or a length-free row. -/
def wfVecLen (r : Row) (p : Prefix) (m : ModRM) : Bool :=
  match p with
  | .legacy _ => true
  | .vex v => r.l.all (· == vexLen v.l)
  | .evex e => if e.bcst && m.mod == 3 then r.l.all (· == .l512) else r.l.all fun l => evexLen e.ll == some l

/-- `vvvv` and `V'` are zero when no operand uses them (R199). -/
def wfVvvv (r : Row) (p : Prefix) : Bool :=
  p.space == .legacy || r.hasVvvv || (p.vvvv == 0 && !p.vp)

/-- Opmask, zeroing, broadcast and rounding bits only where the row permits them (R199). -/
def wfFeatures (r : Row) (p : Prefix) (m : ModRM) : Bool :=
  match p with
  | .legacy _ => true
  | .vex _ => true
  | .evex e =>
    (e.aaa == 0 || r.k) && (!e.z || r.zeroing) && (!e.z || e.aaa != 0)
      && !(e.bcst && m.mod != 3 && r.bcst == 0) && !(e.bcst && m.mod == 3 && r.ersae == .none)

/-- A `k` register in ModRM.reg has three bits (R199). -/
def wfRegK (r : Row) (p : Prefix) : Bool := !r.hasRegK || !(p.r || p.rp)

/-- The SIB byte is there exactly when it follows (R229). -/
def wfSib (a : AddrSize) (m : ModRM) : Bool := m.sib.isSome == sibFollows a m.mod m.rm

/-- The displacement has the size the addressing form gives it (R225, R233). -/
def wfDisp (a : AddrSize) (m : ModRM) : Bool := m.disp.size == dispLength a m.mod m.rm (m.sib.map (·.bs))

/-- The trailing field has the length the row gives it; a direct address has `ASZ`/8 bytes (R111, R269). -/
def wfTrail (a : AddrSize) (r : Row) (trail : List Byte) : Bool := trail.length == trailLength a r.ops

/-- In 64-bit mode no one-byte opcode is a byte that the scanner reads as REX or as an escape (R162, R165). -/
def wfOpcode (b : Bitness) (r : Row) : Bool :=
  b != .b64 || r.space != .legacy || r.map != .m1B
    || !(r.op &&& 0xF0 == 0x40 || r.op == 0xC4 || r.op == 0xC5 || r.op == 0x62)

/-- Number of `true`s. -/
def countTrue (bs : List Bool) : Nat := (bs.map Bool.toNat).sum

/-- Bytes of the shortest prefix part, escapes, payload and opcode (R90 to R92). -/
def headSize (r : Row) : Prefix → Nat
  | .legacy p =>
    countTrue [p.has66, p.has67, p.seg.isSome, p.rep.isSome, p.lock, p.rex.isSome]
      + (match r.map with
        | .m1B => 1
        | .m0F => 2
        | .m0F38 => 3
        | .m0F3A => 3)
  | .vex p => countTrue [p.has67, p.seg.isSome, p.lock] + (if p.w || p.x || p.b || r.map != .m0F then 4 else 3)
  | .evex p => countTrue [p.has67, p.seg.isSome, p.lock] + 5

/-- Bytes of a ModRM part. -/
def ModRM.size (m : ModRM) : Nat := 1 + m.sib.isSome.toNat + m.disp.size

/-- Bytes of the shortest encoding with these fields. -/
def Fields.size (f : Fields) : Nat :=
  headSize f.code.row f.pfx + (match f.modrm with
    | some m => m.size
    | none => 0) + f.trail.length

/-- At most fifteen bytes (R93, R153). -/
def wfSize (f : Fields) : Bool := f.size ≤ maxLen

/-- Every check but the size, on the parts of an encoding read by row `r`. -/
def wfChecks (b : Bitness) (r : Row) (f : Parts) : List Bool :=
  let a := f.pfx.addrSize b
  [wfMode b r, wfRex b f.pfx, wfExt b f.pfx || f.pfx.space == .legacy, wfMandPfx r f.pfx, wfOpSize b r f.pfx, wfW r f.pfx,
   wfReg r f.m, wfMod r f.m, wfVecLen r f.pfx f.m, wfVvvv r f.pfx, wfFeatures r f.pfx f.m, wfRegK r f.pfx,
   f.modrm.isNone || wfSib a f.m, f.modrm.isNone || wfDisp a f.m, wfTrail a r f.trail, wfOpcode b r]

/-- The instruction is well formed in this mode as read by row `r`. -/
def WellFormedBy (b : Bitness) (r : Row) (i : Instr) : Bool := (wfChecks b r i.fields.toParts).all id && wfSize i.fields

/-- The instruction is well formed in this mode by its row of R113 to R116. -/
def WellFormed (b : Bitness) (i : Instr) : Bool := WellFormedBy b i.row i

/-- Under these parameters the table has a row for the instruction that reads it in this mode: some byte sequence of at most
fifteen bytes decodes to it. -/
def WellFormedIn (p : Params) (b : Bitness) (i : Instr) : Bool :=
  p.table.any fun r => decide (r.code = .ref i.code) && r.isReference && WellFormedBy b r i

/-! ## Admissible tables -/

/-- What the key tests of R195 to R197 read of a transaction that reaches them, but for ModRM.reg and the opcode byte. -/
structure KeyInput where
  bitness : Bitness
  w       : Bool
  osz     : OpSize
  mp      : MandPfx
  /-- `Lsel` (R196). -/
  lsel    : Option VecLen
  modIs3  : Bool
  deriving DecidableEq, Repr

/-- The key inputs that the stages before R195 can give in an encoding space: under Legacy, `W` only in 64-bit mode (R162),
`OSZ` and `mp` from the prefixes (R172, R311); under VEX and EVEX, `has66` is 0 (R170, R173), `mp` any, `Lsel` any
value that R196 gives. -/
def keyInputs (space : Space) : List KeyInput :=
  let bools := [false, true]
  let vector := fun lens : List (Option VecLen) =>
    [Bitness.b16, .b32, .b64].flatMap fun b => bools.flatMap fun w => [MandPfx.NP, .p66, .pF3, .pF2].flatMap fun mp =>
      lens.flatMap fun l => bools.map fun m =>
        { bitness := b, w := w, osz := opSize b w false, mp := mp, lsel := l, modIs3 := m }
  match space with
  | .legacy =>
    [(Bitness.b16, false), (.b32, false), (.b64, false), (.b64, true)].flatMap fun (b, w) => bools.flatMap fun h66 =>
      [none, some Rep.F3, some .F2].flatMap fun rep => bools.map fun m =>
        { bitness := b, w := w, osz := opSize b w h66, mp := legacyMp rep h66, lsel := none, modIs3 := m }
  | .vex => vector [some .l128, some .l256]
  | .evex => vector [none, some .l128, some .l256, some .l512]

/-- The row passes the key tests on this input, but for ModRM.reg (R195 to R197). -/
def Row.passes (r : Row) (x : KeyInput) : Bool :=
  r.mp.all (· == x.mp) && r.osz.all (· == x.osz) && r.w.all (· == x.w)
    && r.mod.all (fun c => match c with
      | .mem => !x.modIs3
      | .reg => x.modIs3)
    && r.l.all (fun l => x.lsel == some l) && r.bitness.contains x.bitness

/-- The byte can arrive as the opcode of a map on this input. Under Legacy, map `1B` gets no map escape (R191), no prefix
byte (R94), in 64-bit mode no REX byte (R162) and no escape byte (R165), and elsewhere an escape byte only when the byte
after it, the ModRM byte of a row that has one, does not have mod = 3 (R104); map `0F` gets no further map escape (R191).
No VEX or EVEX payload selects map `1B` (R103). -/
def opcodeArrives (space : Space) (map : OpMap) (hasModrm : Bool) (x : KeyInput) (v : Byte) : Bool :=
  match space with
  | .legacy => match map with
    | .m1B =>
      !([0x0F, 0x66, 0x67, 0x26, 0x2E, 0x36, 0x3E, 0x64, 0x65, 0xF0, 0xF2, 0xF3] : List Byte).contains v
        && !(x.bitness == .b64 && v &&& 0xF0 == 0x40)
        && !(([0xC4, 0xC5, 0x62] : List Byte).contains v && (x.bitness == .b64 || (hasModrm && x.modIs3)))
    | .m0F => v != 0x38 && v != 0x3A
    | .m0F38 => true
    | .m0F3A => true
  | .vex => map != .m1B
  | .evex => map != .m1B

/-- The opcode tests of two rows of one space and map accept a common byte (R193). -/
def opcodesOverlap (r r' : Row) : Bool :=
  decide (r.space = r'.space) && decide (r.map = r'.map) && decide ((r.op ^^^ r'.op) &&& r.opmask &&& r'.opmask = 0)
    && decide (r.op &&& r.opmask = r.op) && decide (r'.op &&& r'.opmask = r'.op)

/-- The bytes that both opcode tests accept, of two rows whose masks are FFh or F8h (R30). -/
def commonOpcodes (r r' : Row) : List Byte :=
  ((List.range 8).map fun low => r.op ||| BitVec.ofNat 8 low).filter fun v =>
    decide (v &&& r.opmask = r.op) && decide (v &&& r'.opmask = r'.op)

/-- Two rows can both pass R193 to R197 for the same inputs (R203 (b)): there is an input that the stages before can give,
with an opcode byte and a ModRM.reg, that passes both (log entry 15). -/
def bothPass (r r' : Row) : Bool :=
  opcodesOverlap r r' && r.reg.all (fun x => r'.reg.all (· == x)) &&
    (keyInputs r.space).any fun x => r.passes x && r'.passes x &&
      (commonOpcodes r r').any (opcodeArrives r.space r.map (r.hasModrm || r'.hasModrm) x)

/-- No two rows, at different places of the list, can both pass (R203 (b)). -/
def pairwiseDisjoint : List Row → Bool
  | [] => true
  | r :: rs => rs.all (fun r' => !bothPass r r') && pairwiseDisjoint rs

/-- An operand shape that can become Memory. -/
def Shape.memLike : Shape → Bool
  | .rm _ => true
  | .mem => true
  | .moffs => true
  | .reg _ => false
  | .vvvv _ => false
  | .opreg _ => false
  | .fixed _ => false
  | .imm _ _ _ => false
  | .rel _ _ => false

/-- An operand shape that reads the ModRM byte. -/
def Shape.needsModrm : Shape → Bool
  | .reg _ => true
  | .rm _ => true
  | .mem => true
  | .moffs => false
  | .vvvv _ => false
  | .opreg _ => false
  | .fixed _ => false
  | .imm _ _ _ => false
  | .rel _ _ => false

/-- The conditions (c) to (f) of R203 on one row, that its opcode mask is FFh or F8h (R30), and that a direct address comes
without ModRM (R31). -/
def rowAdmissible (r : Row) : Bool :=
  decide (r.ops.length ≤ maxOperands) && decide ((r.ops.filter Shape.memLike).length ≤ 1)
    && (!r.ops.any Shape.memLike || r.mem.isSome)
    && (!r.ops.contains .mem || decide (r.mod = some .mem))
    && r.hasModrm == (r.ops.any Shape.needsModrm || r.reg.isSome || r.mod.isSome)
    && (decide (r.space = .evex) || (!r.k && !r.zeroing && r.bcst == 0 && decide (r.ersae = .none) && r.n == 1))
    && (!r.zeroing || r.k) && r.memB.isSome == (r.bcst != 0)
    && (!r.lockable || (decide (r.space = .legacy) && match r.ops.head? with
      | some (.rm _) => true
      | some .mem => true
      | _ => false))
    && (r.opmask == 0xFF || r.opmask == 0xF8) && !(r.ops.contains .moffs && r.hasModrm)

/-- A content of `TEMPLATE_ROM` is admissible (R203): (a), (b), and each row. The spec rejects any other content before the
first request (U13 of 93_implementation_defined.md), so the statements ask for it (log entry 13). -/
def admissible (rows : List Row) : Bool :=
  rows.all (fun r => rows.all fun r' => !opcodesOverlap r r' || r.hasModrm == r'.hasModrm)
    && pairwiseDisjoint rows && rows.all rowAdmissible

end Sys2Proof
end

