-- ==== Sys2Proof/Decode.lean ====
section
/-! DEFINITION. The decoder: byte cursor (spec 40), prefix scanner (41), opcode table dispatcher (42), the reads of the
ModRM/SIB resolver and of the trailing field (43, 44), in pipeline order (R339), total on any bytes and rejecting by
failure kind; and after it the encoder, written from the same layouts (30_encoding.md). -/

namespace Sys2Proof

open Sys2Proof.Machine

/-- What a transaction reads while it decodes: the buffer, `START`, `BITNESS` and the parameters (R20, R351). -/
structure Source where
  buf     : Memory
  start   : Nat
  bitness : Bitness
  params  : Params
  deriving DecidableEq, Repr

/-! ## The byte cursor -/

/-- `Peek(k)` (R150): the length limit is tested before the end of the buffer (R153). -/
def peek (q : Source) (t : Txn) (k : Nat) : Except FailureKind Byte :=
  if q.start + maxLen ≤ t.pos + k then .error .InvalidOpcode
  else match q.buf.read (t.pos + k) with
    | none => .error .EndOfInput
    | some v => .ok v

/-- `POS` moved on by one byte. -/
def advance (t : Txn) : Txn := { t with pos := t.pos + 1 }

/-- `Read()` (R151). -/
def readByte (q : Source) (t : Txn) : Except FailureKind (Byte × Txn) :=
  match peek q t 0 with
  | .error e => .error e
  | .ok v => .ok (v, advance t)

/-- `n` successive `Read()`s, the bytes in buffer order; `ReadLE(n)` is their `leNat` (R154). -/
def readBytes (q : Source) : Nat → Txn → Except FailureKind (List Byte × Txn)
  | 0, t => .ok ([], t)
  | n + 1, t =>
    match readByte q t with
    | .error e => .error e
    | .ok (v, t1) => match readBytes q n t1 with
      | .error e => .error e
      | .ok (vs, t2) => .ok (v :: vs, t2)

/-! ## The prefix scanner -/

/-- The effect of a legacy prefix byte on `PS` (R94, R161); none for any other byte. -/
def legacyPrefix (v : Byte) (ps : PrefixState) : Option PrefixState :=
  if v = 0x66 then some { ps with has66 := true }
  else if v = 0x67 then some { ps with has67 := true }
  else if v = 0x26 then some { ps with seg := some .ES }
  else if v = 0x2E then some { ps with seg := some .CS }
  else if v = 0x36 then some { ps with seg := some .SS }
  else if v = 0x3E then some { ps with seg := some .DS }
  else if v = 0x64 then some { ps with seg := some .FS }
  else if v = 0x65 then some { ps with seg := some .GS }
  else if v = 0xF0 then some { ps with lock := true }
  else if v = 0xF2 then some { ps with rep := some .F2 }
  else if v = 0xF3 then some { ps with rep := some .F3 }
  else none

/-- The REX fields all 0 (R160, R162). -/
def clearRex (ps : PrefixState) : PrefixState :=
  { ps with rexPresent := false, w := false, r := false, x := false, b := false }

/-- The REX fields from a REX byte (R96, R160). -/
def setRex (v : Byte) (ps : PrefixState) : PrefixState :=
  { ps with rexPresent := true, w := v.getLsbD 3, r := v.getLsbD 2, x := v.getLsbD 1, b := v.getLsbD 0 }

/-- A byte 40h to 4Fh (R96). -/
def isRexByte (v : Byte) : Bool := v.extractLsb' 4 4 == 4#4

/-- `PS` after the scan loop consumes byte `v`; none when `v` ends the loop (R160, R162). -/
def scanByte (b : Bitness) (v : Byte) (ps : PrefixState) : Option PrefixState :=
  match legacyPrefix v ps with
  | some ps' => some (clearRex ps')
  | none => if b = .b64 ∧ isRexByte v = true then some (setRex v ps) else none

/-- `PS` with one more byte counted (R163). -/
def countPrefix (ps : PrefixState) : PrefixState := { ps with prefixCount := ps.prefixCount + 1 }

/-- The scan loop (R160). The length limit ends it after fifteen bytes (R153), so the fuel is never used up. -/
def scanPrefixes (q : Source) : Nat → Txn → Except FailureKind Txn
  | 0, _ => .error .InvalidOpcode
  | fuel + 1, t =>
    match peek q t 0 with
    | .error e => .error e
    | .ok v => match scanByte q.bitness v t.ps with
      | none => .ok t
      | some ps => scanPrefixes q fuel { advance t with ps := countPrefix ps }

/-- The three escape forms (R166 to R168). -/
inductive Escape
  | vex2 | vex3 | evex
  deriving DecidableEq, Repr

/-- The escape form of a first non-prefix byte, before the mode condition (R165). -/
def escapeOf (v : Byte) : Option Escape :=
  if v = 0xC5 then some .vex2 else if v = 0xC4 then some .vex3 else if v = 0x62 then some .evex else none

/-- The escape test (R165, R104, R319): outside 64-bit mode the next byte's two top bits must be 11. -/
def escapeTest (q : Source) (t : Txn) : Except FailureKind (Option Escape) :=
  match peek q t 0 with
  | .error e => .error e
  | .ok v => match escapeOf v with
    | none => .ok none
    | some e =>
      if q.bitness = .b64 then .ok (some e)
      else match peek q t 1 with
        | .error k => .error k
        | .ok v1 => .ok (if v1.extractLsb' 6 2 = 3#2 then some e else none)

/-- The map of a `mmmmm` or `mm` value; the other values are reserved (R103, R118). -/
def mapOf (n : Nat) : Option OpMap :=
  if n = 1 then some .m0F else if n = 2 then some .m0F38 else if n = 3 then some .m0F3A else none

/-- Two-byte VEX payload (R97, R166). -/
def vex2Payload (p0 : Byte) (ps : PrefixState) : PrefixState :=
  { ps with space := .vex, map := .m0F, r := !p0.getLsbD 7, x := false, b := false, w := false,
            vvvv := ~~~(p0.extractLsb' 3 4), ll := (p0.extractLsb' 2 1).setWidth 2, pp := p0.extractLsb' 0 2 }

/-- Three-byte VEX payload with its map (R98, R167). -/
def vex3Payload (p0 p1 : Byte) (map : OpMap) (ps : PrefixState) : PrefixState :=
  { ps with space := .vex, map := map, r := !p0.getLsbD 7, x := !p0.getLsbD 6, b := !p0.getLsbD 5, w := p1.getLsbD 7,
            vvvv := ~~~(p1.extractLsb' 3 4), ll := (p1.extractLsb' 2 1).setWidth 2, pp := p1.extractLsb' 0 2 }

/-- EVEX payload with its map (R99 to R101, R168). -/
def evexPayload (p0 p1 p2 : Byte) (map : OpMap) (ps : PrefixState) : PrefixState :=
  { ps with space := .evex, map := map, r := !p0.getLsbD 7, x := !p0.getLsbD 6, b := !p0.getLsbD 5, rp := !p0.getLsbD 4,
            w := p1.getLsbD 7, vvvv := ~~~(p1.extractLsb' 3 4), pp := p1.extractLsb' 0 2,
            z := p2.getLsbD 7, ll := p2.extractLsb' 5 2, bcst := p2.getLsbD 4, vp := !p2.getLsbD 3,
            aaa := p2.extractLsb' 0 3 }

/-- Reading the escape byte and its payload, with the reserved-bit tests after the reads (R166 to R168, R169). -/
def readEscape (q : Source) (e : Escape) (t : Txn) : Except FailureKind Txn :=
  match e with
  | .vex2 => match readBytes q 2 t with
    | .ok ([_, p0], t1) => .ok { t1 with ps := vex2Payload p0 t1.ps }
    | .ok _ => .error .InvalidOpcode      -- never: `readBytes` gives two bytes
    | .error k => .error k
  | .vex3 => match readBytes q 3 t with
    | .ok ([_, p0, p1], t1) => match mapOf (p0.extractLsb' 0 5).toNat with
      | none => .error .InvalidOpcode
      | some map => .ok { t1 with ps := vex3Payload p0 p1 map t1.ps }
    | .ok _ => .error .InvalidOpcode      -- never: `readBytes` gives three bytes
    | .error k => .error k
  | .evex => match readBytes q 4 t with
    | .ok ([_, p0, p1, p2], t1) =>
      if p0.extractLsb' 2 2 = 0#2 then
        match mapOf (p0.extractLsb' 0 2).toNat with
        | none => .error .InvalidOpcode
        | some map =>
          if p1.getLsbD 2 then .ok { t1 with ps := evexPayload p0 p1 p2 map t1.ps } else .error .InvalidOpcode
      else .error .InvalidOpcode
    | .ok _ => .error .InvalidOpcode      -- never: `readBytes` gives four bytes
    | .error k => .error k

/-- Legacy 66h, F2h, F3h or an effective REX before an escape (R170): fail, or drop them. `ps0` is `PS` before the
payload, `ps` after it. -/
def legacyBeforeEscape (q : Source) (ps0 ps : PrefixState) : Except FailureKind PrefixState :=
  let dropped := { ps with has66 := false, rep := none, rexPresent := false }
  if ps0.has66 || ps0.rep.isSome || ps0.rexPresent then
    match q.params.legacyBeforeEscape with
    | .fail => .error .InvalidOpcode
    | .ppWins => .ok dropped
  else .ok dropped

/-- Extension bits outside 64-bit mode (R171): fail, or clear the four bits. -/
def extensionBits (q : Source) (ps : PrefixState) : Except FailureKind PrefixState :=
  if q.bitness ≠ .b64 ∧ (ps.b || ps.rp || ps.vp || ps.vvvv.getLsbD 3) = true then
    match q.params.extBitsNon64 with
    | .fail => .error .InvalidModeForInstruction
    | .ignore => .ok { ps with b := false, rp := false, vp := false, vvvv := ps.vvvv &&& 7 }
  else .ok ps

/-- The whole escape stage (R169): payload, R170, R171, then the mandatory prefix from `pp` (R173). -/
def escapeStage (q : Source) (e : Escape) (t : Txn) : Except FailureKind Txn :=
  match readEscape q e t with
  | .error k => .error k
  | .ok t1 => match legacyBeforeEscape q t.ps t1.ps with
    | .error k => .error k
    | .ok ps2 => match extensionBits q ps2 with
      | .error k => .error k
      | .ok ps3 => .ok { t1 with ps := { ps3 with mp := ppMp ps3.pp } }

/-- The prefix scanner (R160 to R174). -/
def prefixStage (q : Source) (t : Txn) : Except FailureKind Txn :=
  match scanPrefixes q (maxLen + 1) t with
  | .error k => .error k
  | .ok t1 => match escapeTest q t1 with
    | .error k => .error k
    | .ok none => .ok { t1 with ps := { t1.ps with mp := legacyMp t1.ps.rep t1.ps.has66 } }
    | .ok (some e) => escapeStage q e t1

/-! ## The dispatcher -/

/-- The opcode byte in a map. -/
def withOpcode (t : Txn) (map : OpMap) (v : Byte) : Txn := { t with opcode := some v, ps := { t.ps with map := map } }

/-- One more byte read as the opcode of a map. -/
def readOpcodeIn (q : Source) (map : OpMap) (t : Txn) : Except FailureKind Txn :=
  match readByte q t with
  | .error k => .error k
  | .ok (v, t1) => .ok (withOpcode t1 map v)

/-- Reading the opcode (R191, R192). -/
def readOpcode (q : Source) (t : Txn) : Except FailureKind Txn :=
  match readByte q t with
  | .error k => .error k
  | .ok (v, t1) =>
    if t.ps.space ≠ .legacy then .ok (withOpcode t1 t.ps.map v)
    else if v ≠ 0x0F then .ok (withOpcode t1 .m1B v)
    else match readByte q t1 with
      | .error k => .error k
      | .ok (v2, t2) =>
        if v2 = 0x38 then readOpcodeIn q .m0F38 t2
        else if v2 = 0x3A then readOpcodeIn q .m0F3A t2
        else .ok (withOpcode t2 .m0F v2)

/-- `CAND` (R193), among the rows of `TEMPLATE_ROM`. -/
def candidates (rows : List Row) (ps : PrefixState) (op : Byte) : List Row :=
  rows.filter fun r => decide (r.space = ps.space) && decide (r.map = ps.map) && decide (op &&& r.opmask = r.op)

/-- A ModRM byte split (R108, R220). -/
def splitModRM (v : Byte) : ModRM :=
  { mod := v.extractLsb' 6 2, reg := v.extractLsb' 3 3, rm := v.extractLsb' 0 3, sib := none, disp := .none }

/-- The `mod` key (R195). -/
def modMatches (k : Option ModClass) (mod : BitVec 2) : Bool :=
  match k with
  | none => true
  | some .mem => decide (mod ≠ 3)
  | some .reg => decide (mod = 3)

/-- A row matches the keys (R195). -/
def keyMatch (ps : PrefixState) (osz : OpSize) (m : ModRM) (r : Row) : Bool :=
  r.mp.all (fun x => decide (x = ps.mp)) && r.osz.all (fun x => decide (x = osz)) && r.w.all (fun x => decide (x = ps.w))
    && r.reg.all (fun x => decide (x = m.reg)) && modMatches r.mod m.mod

/-- `Lsel` (R196). -/
def lengthSelector (ps : PrefixState) (m : ModRM) (fam : List Row) : Option VecLen :=
  match ps.space with
  | .legacy => none
  | .vex => some (vexLen (ps.ll.getLsbD 0))
  | .evex =>
    if ps.bcst && decide (m.mod = 3) && fam.any (fun r => decide (r.ersae ≠ .none)) then some .l512 else evexLen ps.ll

/-- A row matches the vector length (R196). -/
def lengthMatch (lsel : Option VecLen) (r : Row) : Bool := r.l.all fun l => decide (lsel = some l)

/-- `SEL`: the candidates that match the keys and the vector length (R195, R196). -/
def selected (ps : PrefixState) (osz : OpSize) (m : ModRM) (cand : List Row) : List Row :=
  let fam := cand.filter (keyMatch ps osz m)
  fam.filter (lengthMatch (lengthSelector ps m fam))

/-- `SEL2`: the rows that exist in this mode (R197). -/
def inMode (b : Bitness) (rows : List Row) : List Row := rows.filter fun r => r.bitness.contains b

/-- Selection of the row `T` among the candidates (R195 to R198). -/
def selectRow (b : Bitness) (ps : PrefixState) (osz : OpSize) (m : ModRM) (cand : List Row) : Except FailureKind Row :=
  match selected ps osz m cand with
  | [] => .error .InvalidOpcode
  | r :: rs => match inMode b (r :: rs) with
    | [] => .error .InvalidModeForInstruction
    | t :: _ => .ok t

/-- The template feature checks pass (R199). -/
def featuresOk (ps : PrefixState) (m : ModRM) (r : Row) : Bool :=
  !(decide (ps.space ≠ .legacy) && !r.hasVvvv && (decide (ps.vvvv ≠ 0) || ps.vp))
    && (decide (ps.space ≠ .evex) ||
        !(decide (ps.aaa ≠ 0) && !r.k) && !(ps.z && !r.zeroing) && !(ps.z && decide (ps.aaa = 0))
          && !(ps.bcst && decide (m.mod ≠ 3) && decide (r.bcst = 0))
          && !(ps.bcst && decide (m.mod = 3) && decide (r.ersae = .none)))
    && !(r.hasRegK && (ps.r || ps.rp))

/-- The ModRM byte of the candidates, read when they have one (R194, R203 (a)). -/
def readModRM (q : Source) (cand : List Row) (t : Txn) : Except FailureKind Txn :=
  if cand.any (·.hasModrm) then
    match readByte q t with
    | .error k => .error k
    | .ok (v, t1) => .ok { t1 with modrm := some (splitModRM v) }
  else .ok t

/-- The dispatcher (R190 to R200). DESIGN CHOICE: for candidates without a ModRM byte the `mod` that R196 and R199 test is 0,
so an EVEX row without ModRM and with `b` = 1 counts as a memory form; the spec gives `mod` no value there (R32, log entry
16). -/
def dispatchStage (q : Source) (t : Txn) : Except FailureKind (Row × Txn) :=
  match readOpcode q t with
  | .error k => .error k
  | .ok t1 =>
    let cand := candidates q.params.table t1.ps (t1.opcode.getD 0)
    if cand.isEmpty then .error .InvalidOpcode
    else match readModRM q cand t1 with
      | .error k => .error k
      | .ok t2 =>
        let osz := opSize q.bitness t2.ps.w t2.ps.has66
        let m := t2.modrm.getD ModRM.zero
        match selectRow q.bitness t2.ps osz m cand with
        | .error k => .error k
        | .ok r =>
          if featuresOk t2.ps m r then
            .ok (r, { t2 with osz := some osz, asz := some (addrSize q.bitness t2.ps.has67), row := some r })
          else .error .InvalidOpcode

/-! ## ModRM, SIB, displacement and trailing field -/

/-- A SIB byte split (R109, R229). -/
def splitSib (v : Byte) : Sib := { ss := v.extractLsb' 6 2, idx := v.extractLsb' 3 3, bs := v.extractLsb' 0 3 }

/-- The displacement field that these bytes hold (R110). -/
def dispOf (bs : List Byte) : Disp :=
  if bs.length = 0 then .none
  else if bs.length = 1 then .d8 (leBits 8 bs)
  else if bs.length = 2 then .d16 (leBits 16 bs)
  else .d32 (leBits 32 bs)

/-- The SIB byte, when the addressing form has one (R229). -/
def readSib (q : Source) (a : AddrSize) (m : ModRM) (t : Txn) : Except FailureKind (ModRM × Txn) :=
  if sibFollows a m.mod m.rm then
    match readByte q t with
    | .error k => .error k
    | .ok (v, t1) => .ok ({ m with sib := some (splitSib v) }, t1)
  else .ok (m, t)

/-- The displacement (R225, R233). -/
def readDisp (q : Source) (a : AddrSize) (m : ModRM) (t : Txn) : Except FailureKind (ModRM × Txn) :=
  match readBytes q (dispLength a m.mod m.rm (m.sib.map (·.bs))) t with
  | .error k => .error k
  | .ok (bs, t1) => .ok ({ m with disp := dispOf bs }, t1)

/-- The bytes after the ModRM byte (R223 to R233), for a row that has one. -/
def addressStage (q : Source) (a : AddrSize) (t : Txn) : Except FailureKind Txn :=
  match t.modrm with
  | none => .ok t
  | some m => match readSib q a m t with
    | .error k => .error k
    | .ok (m1, t1) => match readDisp q a m1 t1 with
      | .error k => .error k
      | .ok (m2, t2) => .ok { t2 with modrm := some m2 }

/-- The trailing field, in operand order (R267 to R269, R271). -/
def trailStage (q : Source) (a : AddrSize) (r : Row) (t : Txn) : Except FailureKind Txn :=
  match readBytes q (trailLength a r.ops) t with
  | .error k => .error k
  | .ok (bs, t1) => .ok { t1 with trail := bs }

/-! ## The decoder -/

/-- The effective REX byte of a Legacy encoding (R27). -/
def psRex (ps : PrefixState) : Option Rex :=
  if ps.rexPresent then some { w := ps.w, r := ps.r, x := ps.x, b := ps.b } else none

/-- The prefix part that `PS` holds. -/
def psPrefix (ps : PrefixState) : Prefix :=
  match ps.space with
  | .legacy => .legacy { has66 := ps.has66, has67 := ps.has67, seg := ps.seg, rep := ps.rep, lock := ps.lock,
                         rex := psRex ps }
  | .vex => .vex { has67 := ps.has67, seg := ps.seg, lock := ps.lock, w := ps.w, r := ps.r, x := ps.x, b := ps.b,
                   vvvv := ps.vvvv, l := ps.ll.getLsbD 0 }
  | .evex => .evex { has67 := ps.has67, seg := ps.seg, lock := ps.lock, w := ps.w, r := ps.r, x := ps.x, b := ps.b,
                     rp := ps.rp, vp := ps.vp, vvvv := ps.vvvv, ll := ps.ll, z := ps.z, bcst := ps.bcst, aaa := ps.aaa }

/-- The parts that a transaction has read; the register number in the opcode byte is its low three bits (R107, R265). -/
def txnParts (t : Txn) : Parts :=
  { pfx := psPrefix t.ps, low := (t.opcode.getD 0).extractLsb' 0 3, modrm := t.modrm, trail := t.trail }

/-- What was decoded: an instruction of the reference content, or a row of another content of `TEMPLATE_ROM` with the parts
of its encoding. -/
inductive Decoded
  | instr (i : Instr)
  | row (r : Row) (f : Parts)
  deriving DecidableEq, Repr

/-- What a selected row and the parts read are: the instruction of its code where the row is the reference row of that code up
to the keys `osz` and `bitness`, which no meaning reads. -/
def decodedOf (r : Row) (f : Parts) : Decoded :=
  match r.code with
  | .ref c => if r.isReference then .instr (Instr.build { toParts := f, code := c }) else .row r f
  | .other _ => .row r f

/-- The decoder: every stage up to the last byte of the instruction (R339, steps 1 to 13). It answers what was decoded and
the transient state, whose `pos` stands after the last byte, or the first failure. -/
def decode (q : Source) : Except FailureKind (Decoded × Txn) :=
  match prefixStage q (Txn.initial q.start) with
  | .error k => .error k
  | .ok t1 => match dispatchStage q t1 with
    | .error k => .error k
    | .ok (r, t2) =>
      let a := addrSize q.bitness t2.ps.has67
      match addressStage q a t2 with
      | .error k => .error k
      | .ok t3 => match trailStage q a r t3 with
        | .error k => .error k
        | .ok t4 => .ok (decodedOf r (txnParts t4), t4)

/-- The instruction that a byte string starts with (R9), with the reference parameters. -/
def decodeBytes (b : Bitness) (bs : List Byte) : Except FailureKind Instr :=
  match decode { buf := Memory.ofBytes bs, start := 0, bitness := b, params := Params.reference } with
  | .error k => .error k
  | .ok (.instr i, _) => .ok i
  | .ok (.row _ _, _) => .error .InvalidOpcode      -- never: the reference table has reference rows only

/-! ## The encoder -/

/-- One byte if the condition holds. -/
def byteIf (c : Bool) (v : Byte) : List Byte := if c then [v] else []

/-- The override byte of a segment register (R94). -/
def segByte : SegReg → Byte
  | .ES => 0x26
  | .CS => 0x2E
  | .SS => 0x36
  | .DS => 0x3E
  | .FS => 0x64
  | .GS => 0x65

/-- The byte of a rep class member (R94). -/
def repByte : Rep → Byte
  | .F3 => 0xF3
  | .F2 => 0xF2

/-- The REX byte (R96). -/
def rexByte (x : Rex) : Byte := 4#4 ++ BitVec.ofBool x.w ++ BitVec.ofBool x.r ++ BitVec.ofBool x.x ++ BitVec.ofBool x.b

/-- The shared prefix bytes, one of each class (R94). -/
def commonBytes (has67 : Bool) (seg : Option SegReg) (lock : Bool) : List Byte :=
  byteIf has67 0x67 ++ (seg.map segByte).toList ++ byteIf lock 0xF0

/-- The map-escape bytes of a Legacy opcode (R106). -/
def mapBytes : OpMap → List Byte
  | .m1B => []
  | .m0F => [0x0F]
  | .m0F38 => [0x0F, 0x38]
  | .m0F3A => [0x0F, 0x3A]

/-- The `mmmmm` or `mm` value of a map (R103). -/
def mapNumber : OpMap → Nat
  | .m1B => 0
  | .m0F => 1
  | .m0F38 => 2
  | .m0F3A => 3

/-- The VEX escape and payload (R97, R98): two-byte form when `W`, `X`, `B` are 0 and the map is `0F`. -/
def vexBytes (map : OpMap) (pp : BitVec 2) (p : VexPrefix) : List Byte :=
  let last := BitVec.ofBool p.l ++ pp
  if p.w || p.x || p.b || map != .m0F then
    [0xC4, BitVec.ofBool (!p.r) ++ BitVec.ofBool (!p.x) ++ BitVec.ofBool (!p.b) ++ BitVec.ofNat 5 (mapNumber map),
     BitVec.ofBool p.w ++ ~~~p.vvvv ++ last]
  else [0xC5, BitVec.ofBool (!p.r) ++ ~~~p.vvvv ++ last]

/-- The EVEX escape and payload (R99 to R101). -/
def evexBytes (map : OpMap) (pp : BitVec 2) (p : EvexPrefix) : List Byte :=
  [0x62,
   BitVec.ofBool (!p.r) ++ BitVec.ofBool (!p.x) ++ BitVec.ofBool (!p.b) ++ BitVec.ofBool (!p.rp) ++ 0#2
     ++ BitVec.ofNat 2 (mapNumber map),
   BitVec.ofBool p.w ++ ~~~p.vvvv ++ 1#1 ++ pp,
   BitVec.ofBool p.z ++ p.ll ++ BitVec.ofBool p.bcst ++ BitVec.ofBool (!p.vp) ++ p.aaa]

/-- Prefixes, escapes and payload of a row (R90 to R92). -/
def prefixBytes (r : Row) : Prefix → List Byte
  | .legacy p =>
    byteIf p.has66 0x66 ++ (p.rep.map repByte).toList ++ commonBytes p.has67 p.seg p.lock
      ++ (p.rex.map rexByte).toList ++ mapBytes r.map
  | .vex p => commonBytes p.has67 p.seg p.lock ++ vexBytes r.map (mpPp (r.mp.getD .NP)) p
  | .evex p => commonBytes p.has67 p.seg p.lock ++ evexBytes r.map (mpPp (r.mp.getD .NP)) p

/-- The opcode byte of a row, with its register number (R107). -/
def opcodeByte (r : Row) (low : BitVec 3) : Byte := if r.opmask = 0xF8 then r.op ||| low.setWidth 8 else r.op

/-- The bytes of a displacement field (R61, R110). -/
def dispBytes : Disp → List Byte
  | .none => []
  | .d8 d => [d]
  | .d16 d => leBytes 2 d.toNat
  | .d32 d => leBytes 4 d.toNat

/-- The ModRM byte, the SIB byte and the displacement (R108 to R110). -/
def modrmBytes (m : ModRM) : List Byte :=
  [m.mod ++ m.reg ++ m.rm] ++ (m.sib.map fun s => s.ss ++ s.idx ++ s.bs).toList ++ dispBytes m.disp

/-- The bytes of these fields, in buffer order (R62, R90 to R92). -/
def Fields.bytes (f : Fields) : List Byte :=
  let r := f.code.row
  prefixBytes r f.pfx ++ [opcodeByte r f.low] ++ (match f.modrm with
    | some m => modrmBytes m
    | none => []) ++ f.trail

/-- The encoder: the shortest byte string with these fields, one prefix byte of each class present. -/
def encode (i : Instr) : List Byte := i.fields.bytes

/-! ## The opcode table's words -/

/-- The first row of the table whose opcode test accepts this byte. -/
def tableRow (op : Byte) : Option Row := templateRom.find? fun r => decide (op &&& r.opmask = r.op)

/-- The bytes that the escapes of a row's space, map and mandatory prefix take before the opcode byte, every field of a
VEX or EVEX payload 0 but the keys of the row. -/
def tableEscape (r : Row) : List Byte :=
  match r.space with
  | .legacy => mapBytes r.map
  | .vex => vexBytes r.map (mpPp (r.mp.getD .NP)) { VexPrefix.zero with w := r.w.getD false }
  | .evex => evexBytes r.map (mpPp (r.mp.getD .NP)) { EvexPrefix.zero with w := r.w.getD false }

/-- The instruction bytes that a word of opcode_table.json stands for, up to the fifteen bytes of the longest
instruction. The table gives each row its OPCODE byte alone (R125: the test `OPCODE & mask = match`), so the escape
bytes that lead to a row with that opcode come before it; every byte after the word is 0 (log entry 6). -/
def tableBytes (nbits w : Nat) : List Byte :=
  let word := leBytes (nbits / 8) w
  let escape := match tableRow (word.headD 0) with
    | some r => tableEscape r
    | none => []
  escape ++ word ++ List.replicate (maxLen - escape.length - word.length) 0

/-- The mode in which the table's words are decoded (log entry 6). -/
def tableBitness : Bitness := .b16

/-- What the decoder reads from a word of opcode_table.json (log entry 6). -/
def decodeTableWord (nbits w : Nat) : Option Instr :=
  match decodeBytes tableBitness (tableBytes nbits w) with
  | .ok i => some i
  | .error _ => none

end Sys2Proof
end

