-- ==== Sys2Proof/Machine/Operands.lean ====
section
/-! DEFINITION. The ModRM/SIB resolver's descriptor (spec R220 to R239) and every operand shape of the assembler (R31, R260 to
R270), with the register numbering of R38 to R45. -/

namespace Sys2Proof.Machine

/-! ## Registers -/

/-- `r8` by number (R38): 4 to 7 depend on whether an effective REX byte is there. -/
def reg8Of (n : BitVec 4) (rexp : Bool) : Reg8 :=
  match n.toNat with
  | 0 => .AL
  | 1 => .CL
  | 2 => .DL
  | 3 => .BL
  | 4 => if rexp then .SPL else .AH
  | 5 => if rexp then .BPL else .CH
  | 6 => if rexp then .SIL else .DH
  | 7 => if rexp then .DIL else .BH
  | 8 => .R8L
  | 9 => .R9L
  | 10 => .R10L
  | 11 => .R11L
  | 12 => .R12L
  | 13 => .R13L
  | 14 => .R14L
  | _ => .R15L

/-- The number of a general register of this width (R45). DESIGN CHOICE for 16 to 31, which R45 excludes and which an EVEX row
of another table with `vvvv(r8)` to `vvvv(r64)` gives when `V'` is 1: a free value (log entry 17). -/
def generalNumber (bits : Nat) (n : BitVec 5) : BitVec 4 :=
  if n.toNat < 16 then n.setWidth 4 else Config.generalBeyond bits n

/-- `RegOf(class, n, rexp)` (R45); a general register of number 16 to 31 is a free value (log entry 17). -/
def regOf (c : RegClass) (n : BitVec 5) (rexp : Bool) : Register :=
  match c with
  | .r8 => .r8 (reg8Of (generalNumber 8 n) rexp)
  | .r16 => .r16 (generalNumber 16 n)
  | .r32 => .r32 (generalNumber 32 n)
  | .r64 => .r64 (generalNumber 64 n)
  | .mm => .mm (n.setWidth 3)
  | .xmm => .xmm n
  | .ymm => .ymm n
  | .zmm => .zmm n
  | .k => .k (n.setWidth 3)

/-- Register number of ModRM.reg by class (R221). -/
def regNumber (c : RegClass) (p : Prefix) (reg : BitVec 3) : BitVec 5 :=
  match c with
  | .r8 | .r16 | .r32 | .r64 => 0#1 ++ BitVec.ofBool p.r ++ reg
  | .xmm | .ymm | .zmm => BitVec.ofBool p.rp ++ BitVec.ofBool p.r ++ reg
  | .mm | .k => 0#2 ++ reg

/-- Register number of ModRM.rm in a register-only form by class (R222): `X` is the fifth bit under EVEX only. -/
def rmNumber (c : RegClass) (p : Prefix) (rm : BitVec 3) : BitVec 5 :=
  match c with
  | .r8 | .r16 | .r32 | .r64 => 0#1 ++ BitVec.ofBool p.b ++ rm
  | .xmm | .ymm | .zmm => BitVec.ofBool (decide (p.space = .evex) && p.x) ++ BitVec.ofBool p.b ++ rm
  | .mm | .k => 0#2 ++ rm

/-- A general register of the addressing width (R227). -/
def addrReg (a : AddrSize) (n : BitVec 4) : Register :=
  match a with
  | .a16 => .r16 n
  | .a32 => .r32 n
  | .a64 => .r64 n

/-- The name of a general register of 16 bits by number (R39). -/
def gprName (n : Nat) : String :=
  (["AX", "CX", "DX", "BX", "SP", "BP", "SI", "DI"][n]?).getD ("R" ++ toString n ++ "W")

/-- The name the spec gives a register (R38 to R44). -/
def registerName : Register → String
  | .r8 r => match r with
    | .AL => "AL" | .CL => "CL" | .DL => "DL" | .BL => "BL" | .AH => "AH" | .CH => "CH" | .DH => "DH" | .BH => "BH"
    | .SPL => "SPL" | .BPL => "BPL" | .SIL => "SIL" | .DIL => "DIL" | .R8L => "R8L" | .R9L => "R9L" | .R10L => "R10L"
    | .R11L => "R11L" | .R12L => "R12L" | .R13L => "R13L" | .R14L => "R14L" | .R15L => "R15L"
  | .r16 n => gprName n.toNat
  | .r32 n => if n.toNat < 8 then "E" ++ gprName n.toNat else "R" ++ toString n.toNat ++ "D"
  | .r64 n => if n.toNat < 8 then "R" ++ gprName n.toNat else "R" ++ toString n.toNat
  | .seg s => match s with
    | .ES => "ES" | .CS => "CS" | .SS => "SS" | .DS => "DS" | .FS => "FS" | .GS => "GS"
  | .mm n => "MM" ++ toString n.toNat
  | .xmm n => "XMM" ++ toString n.toNat
  | .ymm n => "YMM" ++ toString n.toNat
  | .zmm n => "ZMM" ++ toString n.toNat
  | .k n => "K" ++ toString n.toNat
  | .EIP => "EIP"
  | .RIP => "RIP"

/-! ## The memory descriptor -/

/-- Base of 16-bit addressing (R224). -/
def base16 (mod : BitVec 2) (rm : BitVec 3) : Option Register :=
  match rm.toNat with
  | 0 => some (.r16 3)                                  -- BX
  | 1 => some (.r16 3)                                  -- BX
  | 2 => some (.r16 5)                                  -- BP
  | 3 => some (.r16 5)                                  -- BP
  | 4 => some (.r16 6)                                  -- SI
  | 5 => some (.r16 7)                                  -- DI
  | 6 => if mod = 0 then none else some (.r16 5)        -- direct address, or BP
  | _ => some (.r16 3)                                  -- BX

/-- Index of 16-bit addressing (R224). -/
def index16 (rm : BitVec 3) : Option Register :=
  match rm.toNat with
  | 0 => some (.r16 6)                                  -- SI
  | 1 => some (.r16 7)                                  -- DI
  | 2 => some (.r16 6)                                  -- SI
  | 3 => some (.r16 7)                                  -- DI
  | _ => none

/-- The base field of 32/64-bit addressing: SIB.base when there is a SIB byte, else ModRM.rm (R227, R231). -/
def baseField (m : ModRM) : BitVec 3 :=
  match m.sib with
  | some s => s.bs
  | none => m.rm

/-- mod = 00 with base field 101: no general base register (R228, R231). -/
def noBase (m : ModRM) : Bool := decide (m.mod = 0) && decide (baseField m = 5)

/-- Base of 32/64-bit addressing (R227, R228, R231): without SIB in 64-bit mode the no-base form is RIP-relative. -/
def baseReg (b : Bitness) (a : AddrSize) (p : Prefix) (m : ModRM) : Option Register :=
  if noBase m then
    match m.sib with
    | some _ => none
    | none => if b = .b64 then some (if a = .a64 then .RIP else .EIP) else none
  else some (addrReg a (BitVec.ofBool p.b ++ baseField m))

/-- Index of 32/64-bit addressing: number 4 is no index (R230). -/
def indexReg (a : AddrSize) (p : Prefix) (m : ModRM) : Option Register :=
  match m.sib with
  | none => none
  | some s =>
    let n := BitVec.ofBool p.x ++ s.idx
    if n = 4 then none else some (addrReg a n)

/-- Scale (R232). -/
def scaleOf (m : ModRM) : Nat :=
  match m.sib with
  | none => 1
  | some s => 2 ^ s.ss.toNat

/-- Displacement value, unsigned at the addressing width, a one-byte field times `n` (R234, R236). -/
def dispValue (a : AddrSize) (n : Nat) : Disp → Nat
  | .none => 0
  | .d8 d => ((d.signExtend a.bits).toNat * n) % 2 ^ a.bits
  | .d16 d => (d.signExtend a.bits).toNat
  | .d32 d => (d.signExtend a.bits).toNat

/-- Default segment of 16-bit addressing (R226). -/
def defaultSeg16 (m : ModRM) : SegReg := if base16 m.mod m.rm = some (.r16 5) then .SS else .DS

/-- Default segment of 32/64-bit addressing (R235): base number before extension 4 or 5, not extended, and a base there. -/
def defaultSeg (p : Prefix) (m : ModRM) : SegReg :=
  if !noBase m && (decide (baseField m = 4) || decide (baseField m = 5)) && !p.b then .SS else .DS

/-- `MEM` of a memory form (R223 to R238); `n` is the `disp8*N` factor. -/
def resolveMem (b : Bitness) (p : Prefix) (n : Nat) (m : ModRM) : MemDesc :=
  let a := p.addrSize b
  match a with
  | .a16 =>
    { segment := p.seg.getD (defaultSeg16 m), base := base16 m.mod m.rm, index := index16 m.rm, scale := 1,
      disp := dispValue a n m.disp, dispSize := m.disp.size, addrSize := a }
  | .a32 | .a64 =>
    { segment := p.seg.getD (defaultSeg p m), base := baseReg b a p m, index := indexReg a p m, scale := scaleOf m,
      disp := dispValue a n m.disp, dispSize := m.disp.size, addrSize := a }

/-! ## Operand shapes -/

/-- What the operand shapes are filled from (R31, R260): the request, the prefix part, ModRM and its descriptor. -/
structure Env where
  bitness    : Bitness
  ip         : Ip
  byteLength : Nat
  pfx        : Prefix
  modrm      : ModRM
  mem        : MemDesc
  deriving DecidableEq, Repr

/-- A broadcast is in effect (R293). -/
def bcstOn (p : Prefix) (m : ModRM) : Bool := p.bcst && decide (m.mod ≠ 3)

/-- Shape `reg(class)` (R261). -/
def Env.reg (e : Env) (c : RegClass) : Operand :=
  .register (regOf c (regNumber c e.pfx e.modrm.reg) e.pfx.rexPresent)

/-- Shape `mem` (R263), and the memory case of `rm`. -/
def Env.memory (e : Env) (size : MemorySize) : Operand := .memory e.mem size

/-- Shape `rm(class)` (R262). -/
def Env.rm (e : Env) (c : RegClass) (size : MemorySize) : Operand :=
  if e.modrm.mod = 3 then .register (regOf c (rmNumber c e.pfx e.modrm.rm) e.pfx.rexPresent) else e.memory size

/-- Shape `rm(class)` of a row that permits broadcast: the size by R270. -/
def Env.rmBcst (e : Env) (c : RegClass) (size sizeB : MemorySize) : Operand :=
  e.rm c (if bcstOn e.pfx e.modrm then sizeB else size)

/-- Shape `vvvv(class)` (R264); a general register of number 16 to 31 is a free value (log entry 17). -/
def Env.vvvv (e : Env) (c : RegClass) : Operand :=
  .register (regOf c (BitVec.ofBool e.pfx.vp ++ e.pfx.vvvv) false)

/-- Shape `opreg(class)` (R265). -/
def Env.opreg (e : Env) (c : RegClass) (low : BitVec 3) : Operand :=
  .register (regOf c (0#1 ++ BitVec.ofBool e.pfx.b ++ low) e.pfx.rexPresent)

/-- Shape `fixed(r)` (R266). -/
def fixedReg (r : Register) : Operand := .register r

/-- Shape `imm(n, 8n, zx)` (R267). -/
def immZx {w : Nat} (v : BitVec w) : Operand := .immediate v.toNat w (w / 8)

/-- Shape `imm(n, width, sx)` (R267): sign-extended to the operand width. -/
def immSx {w : Nat} (width : Nat) (v : BitVec w) : Operand := .immediate (v.signExtend width).toNat width (w / 8)

/-- Branch target (R268): `(IP + byte_length + rel) mod 2^width`. -/
def branchTarget (ip : Ip) (byteLength : Nat) (rel : Int) (width : Nat) : Nat :=
  (((ip.toNat : Int) + byteLength + rel) % (2 ^ width : Nat)).toNat

/-- Shape `rel(n, width)` (R268). -/
def Env.near {w : Nat} (e : Env) (width : Nat) (v : BitVec w) : Operand :=
  .nearBranch v.toInt width (w / 8) (branchTarget e.ip e.byteLength v.toInt width)

/-- The descriptor of a direct address (R269). -/
def moffsDesc (p : Prefix) : Moffs → MemDesc
  | .a16 a => { segment := p.seg.getD .DS, base := none, index := none, scale := 1, disp := a.toNat, dispSize := 2,
                addrSize := .a16 }
  | .a32 a => { segment := p.seg.getD .DS, base := none, index := none, scale := 1, disp := a.toNat, dispSize := 4,
                addrSize := .a32 }
  | .a64 a => { segment := p.seg.getD .DS, base := none, index := none, scale := 1, disp := a.toNat, dispSize := 8,
                addrSize := .a64 }

/-- Shape `moffs` (R269). -/
def Env.moffs (e : Env) (a : Moffs) (size : MemorySize) : Operand := .memory (moffsDesc e.pfx a) size

/-- The operand is of kind Memory (R274). -/
def Operand.isMemory : Operand → Bool
  | .memory _ _ => true
  | .none => false
  | .register _ => false
  | .immediate _ _ _ => false
  | .nearBranch _ _ _ _ => false

/-- The four operand slots (R33, R276): the operands, then kind `None`. -/
def operandSlots (ops : List Operand) : List Operand :=
  (ops ++ List.replicate maxOperands Operand.none).take maxOperands

end Sys2Proof.Machine
end

