-- ==== Sys2Proof/Machine/Flags.lean ====
section
/-! DEFINITION. The flag-like outputs of the block: the prefix/flag summary (spec R273) and the vector-extension fields
(R290 to R298). The block has no condition codes (R49). -/

namespace Sys2Proof.Machine

/-- What a row yields besides its operands (R30): its code; `mpAny`, its key `mp` is `ANY`; `lockable`; `ersae`; the
`disp8*N` factor `n`, and `bcst`, the factor under broadcast. -/
structure Body where
  code     : RowCode
  mpAny    : Bool := false
  lockable : Bool := false
  ersae    : ErSae := .none
  n        : Nat := 1
  bcst     : Nat := 0
  deriving DecidableEq, Repr

/-- `has_rep` (R273). -/
def hasRepFlag (y : Body) (p : Prefix) : Bool := decide (p.rep = some .F3) && decide (p.space = .legacy) && y.mpAny

/-- `has_repne` (R273). -/
def hasRepneFlag (y : Body) (p : Prefix) : Bool := decide (p.rep = some .F2) && decide (p.space = .legacy) && y.mpAny

/-- The map `RC` from `L'L` to rounding control (R295). -/
def roundingOf (ll : BitVec 2) : Rounding :=
  if ll = 0 then .RoundToNearest else if ll = 1 then .RoundDown else if ll = 2 then .RoundUp else .RoundTowardZero

/-- A register-only EVEX form with `b` = 1 (R294). -/
def erSaeOn (e : EvexPrefix) (m : ModRM) : Bool := e.bcst && decide (m.mod = 3)

/-- The vector-extension fields: absent under Legacy (R290), all `None` and false under VEX (R298), by R291 to R294 under
EVEX. -/
def vecExt (params : Params) (y : Body) (m : ModRM) : Prefix → Option VecExt
  | .legacy _ => none
  | .vex _ => some { opMask := none, zeroingMasking := false, roundingControl := none, suppressAllExceptions := false }
  | .evex e => some
      { opMask := if e.aaa = 0 then none else some e.aaa
        zeroingMasking := e.z
        roundingControl := if erSaeOn e m && decide (y.ersae = .er) then some (roundingOf e.ll) else none
        suppressAllExceptions := erSaeOn e m && (params.erSetsSae || decide (y.ersae = .sae)) }

/-- `N` of `disp8*N` (R236). -/
def dispFactor (y : Body) (p : Prefix) (m : ModRM) : Nat := if bcstOn p m then y.bcst else y.n

end Sys2Proof.Machine
end

