-- ==== Sys2Proof/Machine/Ops.lean ====
section
/-! DEFINITION. The named operations on the state: the caller's (submitting a request, R20, R376), the start of a
transaction (R24, R26), the failure exit (the block's only trap entry, R342), and operand assembly up to the LOCK check and
the response (R260 to R278), which every meaning calls. -/

namespace Sys2Proof.Machine

/-- What a meaning answers. -/
abbrev Result := Host.Outcome State Fault Refusal

/-- The caller puts a request on the port; the old response is gone (R20, R73, R376). No step does this. -/
def State.submit (s : State) (buf : Memory) (q : Request) : State :=
  { s with buf := buf, request := some q, txn := none, response := none }

/-- The caller's next request after an `Ok` (R25, R376): `START` and `IP` moved on by `byte_length`, `IP` modulo 2^64, the same
`BUF` and `LEN`, and the `BITNESS` `b` it wants next. After a failure the block proposes no position (R336). -/
def State.callerNext (s : State) (b : Bitness) : State :=
  match s.request, s.response with
  | some q, some (.ok out) =>
    s.submit s.buf { start := q.start + out.byteLength, ip := q.ip + BitVec.ofNat 64 out.byteLength, bitness := b }
  | _, _ => s

/-- The caller writes one byte of its buffer between transactions (R375). No step does this. -/
def State.callerWrite (s : State) (a : Nat) (v : Byte) : State := { s with buf := s.buf.write a v }

/-- The state with this transaction in progress. -/
def State.withTxn (s : State) (t : Txn) : State := { s with txn := some t }

/-- A transaction begins, with the initial transient state (R24, R26, R50). -/
def State.begin (s : State) (q : Request) : State := s.withTxn (Txn.initial q.start)

/-- THE FAILURE EXIT (R335, R342): the transient state is discarded, the response is the kind and nothing else (R337), and
nothing else changes. There is no handler, no saved state, and nothing to return from (R343). -/
def State.fail (s : State) (k : FailureKind) : State := { s with txn := none, response := some (.fail k) }

/-- The spec's number of a failure kind, in the source's order of mention (R330). -/
def failureNumber : FailureKind → Nat
  | .EndOfInput => 0
  | .InvalidOpcode => 1
  | .InvalidModeForInstruction => 2
  | .InvalidLockUsage => 3

/-- The successful end (R278): the record is the response, the transient state is discarded. -/
def State.succeed (s : State) (out : Instruction) : State := { s with txn := none, response := some (.ok out) }

/-- The environment of the operand shapes. -/
def envOf (q : Request) (t : Txn) (y : Body) (p : Prefix) (m : ModRM) : Env :=
  { bitness := q.bitness, ip := q.ip, byteLength := t.pos - q.start, pfx := p, modrm := m,
    mem := resolveMem q.bitness p (dispFactor y p m) m }

/-- The record (R33, R260, R272, R273, R275, R276). -/
def recordOf (params : Params) (y : Body) (e : Env) (ops : List Operand) : Instruction :=
  { code := y.code, byteLength := e.byteLength, operands := operandSlots ops, opCount := ops.length,
    hasRep := hasRepFlag y e.pfx, hasRepne := hasRepneFlag y e.pfx, hasLock := e.pfx.lock,
    segmentOverride := e.pfx.seg, vec := vecExt params y e.modrm e.pfx }

/-- The LOCK check fails (R274): LOCK, and not a lockable row with operand 0 in memory. -/
def lockRefused (y : Body) (p : Prefix) (out : Instruction) : Bool :=
  p.lock && !(y.lockable && (out.operands.headD .none).isMemory)

/-- The last step of a transaction (R274, R278), on a state whose transaction holds the assembled record. -/
def conclude (y : Body) (p : Prefix) (s : State) : Result :=
  match s.txn with
  | none => .fault .noTransaction
  | some t => match t.out with
    | none => .fault .noTransaction
    | some out => if lockRefused y p out then .next (s.fail .InvalidLockUsage) else .next (s.succeed out)

/-- The resolver's descriptor and the record under assembly, in the transaction (R238, R260). -/
def assembled (params : Params) (q : Request) (y : Body) (p : Prefix) (m : Option ModRM) (ops : Env → List Operand)
    (t : Txn) : Txn :=
  let m0 := m.getD ModRM.zero
  let e := envOf q t y p m0
  { t with mem := if m.isSome && decide (m0.mod ≠ 3) then some e.mem else none
           out := some (recordOf params y e (ops e)) }

/-- Operand assembly for one row (R260 to R278): resolve, walk the operands, fill the record, check LOCK, respond. -/
def answer (y : Body) (p : Prefix) (m : Option ModRM) (ops : Env → List Operand) (s : State) : Result :=
  match s.request, s.txn with
  | some q, some t => conclude y p (s.withTxn (assembled s.params q y p m ops t))
  | _, _ => .fault .noTransaction

end Sys2Proof.Machine
end

