-- ==== Sys2Proof/Machine/Assembler.lean ====
section
/-! DEFINITION. The Operand Assembler as the spec describes it, driven by the template row (R260: it "walks the template's
declared operand shapes in order"), for a row of any `TEMPLATE_ROM`. For the reference rows the meanings say row by row what
this yields (rules R400 to R582); that the two agree is a statement about both. -/

namespace Sys2Proof.Machine

/-- `memory_size` of a row's memory operand (R270). A row with a memory operand has `mem`, and `mem_b` when it permits
broadcast (R203 (c), (e)); a broadcast that the row does not permit has failed before (R199). -/
def rowMemorySize (r : Row) (p : Prefix) (m : ModRM) : MemorySize :=
  let plain := r.mem.getD .Unknown
  if bcstOn p m then r.memB.getD plain else plain

/-- The bytes that a shape takes of the trailing bytes, `later` the shapes after it (R271): a direct address takes what the
later shapes leave, which in a well-formed encoding is `ASZ`/8 bytes (R269). -/
def sliceLength (a : AddrSize) (trail : List Byte) (s : Shape) (later : List Shape) : Nat :=
  match s with
  | .moffs => trail.length - trailLength a later
  | _ => shapeBytes a s

/-- The declared shapes in order, each with its trailing bytes (R271). -/
def trailSlices (a : AddrSize) : List Byte → List Shape → List (Shape × List Byte)
  | _, [] => []
  | trail, s :: ss =>
    let n := sliceLength a trail s ss
    (s, trail.take n) :: trailSlices a (trail.drop n) ss

/-- One declared operand shape filled (R261 to R269); `bs` are its trailing bytes. The size of a direct address is the row's
`mem`, as R269 writes it: R270 tests a `mod` that a row without a ModRM byte does not have. DESIGN CHOICE for an EVEX row
with `b` = 1, where the two rules could be read apart (log entry 16). -/
def shapeOperand (e : Env) (r : Row) (low : BitVec 3) (s : Shape) (bs : List Byte) : Operand :=
  match s with
  | .reg c => e.reg c
  | .rm c => e.rm c (rowMemorySize r e.pfx e.modrm)
  | .mem => e.memory (rowMemorySize r e.pfx e.modrm)
  | .vvvv c => e.vvvv c
  | .opreg c => e.opreg c low
  | .fixed r => fixedReg r
  | .imm n w sx => if sx then immSx w (leBits (8 * n) bs) else immZx (leBits (8 * n) bs)
  | .rel n w => e.near w (leBits (8 * n) bs)
  | .moffs => e.moffs (Moffs.ofBytes bs) (r.mem.getD .Unknown)

/-- The operands of a row, in order (R260). -/
def rowOperands (e : Env) (r : Row) (f : Parts) : List Operand :=
  (trailSlices (e.pfx.addrSize e.bitness) f.trail r.ops).map fun x => shapeOperand e r f.low x.1 x.2

/-- What a row yields besides its operands. -/
def Row.body (r : Row) : Body :=
  { code := r.code, mpAny := r.mp.isNone, lockable := r.lockable, ersae := r.ersae, n := r.n, bcst := r.bcst }

/-- The assembler on a row and the parts of an encoding (R260 to R278). -/
def assembleRow (r : Row) (f : Parts) (s : State) : Result :=
  answer (Row.body r) f.pfx f.modrm (fun e => rowOperands e r f) s

end Sys2Proof.Machine
end

