-- ==== Sys2Proof/Machine/Evex.lean ====
section
/-! DEFINITION. Meanings of the EVEX rows (spec R542 to R582):
the record each row yields, one definition per row, its operands in the row's order as its rule writes them. -/

namespace Sys2Proof.Machine

/-- R542: `EVEX.128.NP.0F.W0 58 /r`. -/
def execEvex_vaddps_xmm_k1z_xmm_xmmm128b32 (p : EvexPrefix) (m : ModRM) (s : State) : Result :=
  answer { code := .ref .EVEX_Vaddps_xmm_k1z_xmm_xmmm128b32, n := 16, bcst := 4 } (.evex p) (some m)
    (fun e => [e.reg .xmm, e.vvvv .xmm, e.rmBcst .xmm .Packed128_Float32 .Broadcast128_Float32]) s

/-- R543: `EVEX.256.NP.0F.W0 58 /r`. -/
def execEvex_vaddps_ymm_k1z_ymm_ymmm256b32 (p : EvexPrefix) (m : ModRM) (s : State) : Result :=
  answer { code := .ref .EVEX_Vaddps_ymm_k1z_ymm_ymmm256b32, n := 32, bcst := 4 } (.evex p) (some m)
    (fun e => [e.reg .ymm, e.vvvv .ymm, e.rmBcst .ymm .Packed256_Float32 .Broadcast256_Float32]) s

/-- R544: `EVEX.512.NP.0F.W0 58 /r`. -/
def execEvex_vaddps_zmm_k1z_zmm_zmmm512b32_er (p : EvexPrefix) (m : ModRM) (s : State) : Result :=
  answer { code := .ref .EVEX_Vaddps_zmm_k1z_zmm_zmmm512b32_er, ersae := .er, n := 64, bcst := 4 } (.evex p) (some m)
    (fun e => [e.reg .zmm, e.vvvv .zmm, e.rmBcst .zmm .Packed512_Float32 .Broadcast512_Float32]) s

/-- R545: `EVEX.128.66.0F.W1 58 /r`. -/
def execEvex_vaddpd_xmm_k1z_xmm_xmmm128b64 (p : EvexPrefix) (m : ModRM) (s : State) : Result :=
  answer { code := .ref .EVEX_Vaddpd_xmm_k1z_xmm_xmmm128b64, n := 16, bcst := 8 } (.evex p) (some m)
    (fun e => [e.reg .xmm, e.vvvv .xmm, e.rmBcst .xmm .Packed128_Float64 .Broadcast128_Float64]) s

/-- R546: `EVEX.256.66.0F.W1 58 /r`. -/
def execEvex_vaddpd_ymm_k1z_ymm_ymmm256b64 (p : EvexPrefix) (m : ModRM) (s : State) : Result :=
  answer { code := .ref .EVEX_Vaddpd_ymm_k1z_ymm_ymmm256b64, n := 32, bcst := 8 } (.evex p) (some m)
    (fun e => [e.reg .ymm, e.vvvv .ymm, e.rmBcst .ymm .Packed256_Float64 .Broadcast256_Float64]) s

/-- R547: `EVEX.512.66.0F.W1 58 /r`. -/
def execEvex_vaddpd_zmm_k1z_zmm_zmmm512b64_er (p : EvexPrefix) (m : ModRM) (s : State) : Result :=
  answer { code := .ref .EVEX_Vaddpd_zmm_k1z_zmm_zmmm512b64_er, ersae := .er, n := 64, bcst := 8 } (.evex p) (some m)
    (fun e => [e.reg .zmm, e.vvvv .zmm, e.rmBcst .zmm .Packed512_Float64 .Broadcast512_Float64]) s

/-- R548: `EVEX.LIG.F3.0F.W0 58 /r`. -/
def execEvex_vaddss_xmm_k1z_xmm_xmmm32_er (p : EvexPrefix) (m : ModRM) (s : State) : Result :=
  answer { code := .ref .EVEX_Vaddss_xmm_k1z_xmm_xmmm32_er, ersae := .er, n := 4 } (.evex p) (some m)
    (fun e => [e.reg .xmm, e.vvvv .xmm, e.rm .xmm .Float32]) s

/-- R549: `EVEX.LIG.F2.0F.W1 58 /r`. -/
def execEvex_vaddsd_xmm_k1z_xmm_xmmm64_er (p : EvexPrefix) (m : ModRM) (s : State) : Result :=
  answer { code := .ref .EVEX_Vaddsd_xmm_k1z_xmm_xmmm64_er, ersae := .er, n := 8 } (.evex p) (some m)
    (fun e => [e.reg .xmm, e.vvvv .xmm, e.rm .xmm .Float64]) s

/-- R550: `EVEX.128.NP.0F.W0 5F /r`. -/
def execEvex_vmaxps_xmm_k1z_xmm_xmmm128b32 (p : EvexPrefix) (m : ModRM) (s : State) : Result :=
  answer { code := .ref .EVEX_Vmaxps_xmm_k1z_xmm_xmmm128b32, n := 16, bcst := 4 } (.evex p) (some m)
    (fun e => [e.reg .xmm, e.vvvv .xmm, e.rmBcst .xmm .Packed128_Float32 .Broadcast128_Float32]) s

/-- R551: `EVEX.256.NP.0F.W0 5F /r`. -/
def execEvex_vmaxps_ymm_k1z_ymm_ymmm256b32 (p : EvexPrefix) (m : ModRM) (s : State) : Result :=
  answer { code := .ref .EVEX_Vmaxps_ymm_k1z_ymm_ymmm256b32, n := 32, bcst := 4 } (.evex p) (some m)
    (fun e => [e.reg .ymm, e.vvvv .ymm, e.rmBcst .ymm .Packed256_Float32 .Broadcast256_Float32]) s

/-- R552: `EVEX.512.NP.0F.W0 5F /r`. -/
def execEvex_vmaxps_zmm_k1z_zmm_zmmm512b32_sae (p : EvexPrefix) (m : ModRM) (s : State) : Result :=
  answer { code := .ref .EVEX_Vmaxps_zmm_k1z_zmm_zmmm512b32_sae, ersae := .sae, n := 64, bcst := 4 } (.evex p) (some m)
    (fun e => [e.reg .zmm, e.vvvv .zmm, e.rmBcst .zmm .Packed512_Float32 .Broadcast512_Float32]) s

/-- R553: `EVEX.128.66.0F.WIG 60 /r`. -/
def execEvex_vpunpcklbw_xmm_k1z_xmm_xmmm128 (p : EvexPrefix) (m : ModRM) (s : State) : Result :=
  answer { code := .ref .EVEX_Vpunpcklbw_xmm_k1z_xmm_xmmm128, n := 16 } (.evex p) (some m)
    (fun e => [e.reg .xmm, e.vvvv .xmm, e.rm .xmm .Packed128_Int8]) s

/-- R554: `EVEX.256.66.0F.WIG 60 /r`. -/
def execEvex_vpunpcklbw_ymm_k1z_ymm_ymmm256 (p : EvexPrefix) (m : ModRM) (s : State) : Result :=
  answer { code := .ref .EVEX_Vpunpcklbw_ymm_k1z_ymm_ymmm256, n := 32 } (.evex p) (some m)
    (fun e => [e.reg .ymm, e.vvvv .ymm, e.rm .ymm .Packed256_Int8]) s

/-- R555: `EVEX.512.66.0F.WIG 60 /r`. -/
def execEvex_vpunpcklbw_zmm_k1z_zmm_zmmm512 (p : EvexPrefix) (m : ModRM) (s : State) : Result :=
  answer { code := .ref .EVEX_Vpunpcklbw_zmm_k1z_zmm_zmmm512, n := 64 } (.evex p) (some m)
    (fun e => [e.reg .zmm, e.vvvv .zmm, e.rm .zmm .Packed512_Int8]) s

/-- R556: `EVEX.128.66.0F.WIG 61 /r`. -/
def execEvex_vpunpcklwd_xmm_k1z_xmm_xmmm128 (p : EvexPrefix) (m : ModRM) (s : State) : Result :=
  answer { code := .ref .EVEX_Vpunpcklwd_xmm_k1z_xmm_xmmm128, n := 16 } (.evex p) (some m)
    (fun e => [e.reg .xmm, e.vvvv .xmm, e.rm .xmm .Packed128_Int16]) s

/-- R557: `EVEX.256.66.0F.WIG 61 /r`. -/
def execEvex_vpunpcklwd_ymm_k1z_ymm_ymmm256 (p : EvexPrefix) (m : ModRM) (s : State) : Result :=
  answer { code := .ref .EVEX_Vpunpcklwd_ymm_k1z_ymm_ymmm256, n := 32 } (.evex p) (some m)
    (fun e => [e.reg .ymm, e.vvvv .ymm, e.rm .ymm .Packed256_Int16]) s

/-- R558: `EVEX.512.66.0F.WIG 61 /r`. -/
def execEvex_vpunpcklwd_zmm_k1z_zmm_zmmm512 (p : EvexPrefix) (m : ModRM) (s : State) : Result :=
  answer { code := .ref .EVEX_Vpunpcklwd_zmm_k1z_zmm_zmmm512, n := 64 } (.evex p) (some m)
    (fun e => [e.reg .zmm, e.vvvv .zmm, e.rm .zmm .Packed512_Int16]) s

/-- R559: `EVEX.128.66.0F.W0 62 /r`. -/
def execEvex_vpunpckldq_xmm_k1z_xmm_xmmm128b32 (p : EvexPrefix) (m : ModRM) (s : State) : Result :=
  answer { code := .ref .EVEX_Vpunpckldq_xmm_k1z_xmm_xmmm128b32, n := 16, bcst := 4 } (.evex p) (some m)
    (fun e => [e.reg .xmm, e.vvvv .xmm, e.rmBcst .xmm .Packed128_Int32 .Broadcast128_Int32]) s

/-- R560: `EVEX.256.66.0F.W0 62 /r`. -/
def execEvex_vpunpckldq_ymm_k1z_ymm_ymmm256b32 (p : EvexPrefix) (m : ModRM) (s : State) : Result :=
  answer { code := .ref .EVEX_Vpunpckldq_ymm_k1z_ymm_ymmm256b32, n := 32, bcst := 4 } (.evex p) (some m)
    (fun e => [e.reg .ymm, e.vvvv .ymm, e.rmBcst .ymm .Packed256_Int32 .Broadcast256_Int32]) s

/-- R561: `EVEX.512.66.0F.W0 62 /r`. -/
def execEvex_vpunpckldq_zmm_k1z_zmm_zmmm512b32 (p : EvexPrefix) (m : ModRM) (s : State) : Result :=
  answer { code := .ref .EVEX_Vpunpckldq_zmm_k1z_zmm_zmmm512b32, n := 64, bcst := 4 } (.evex p) (some m)
    (fun e => [e.reg .zmm, e.vvvv .zmm, e.rmBcst .zmm .Packed512_Int32 .Broadcast512_Int32]) s

/-- R562: `EVEX.128.66.0F.WIG 63 /r`. -/
def execEvex_vpacksswb_xmm_k1z_xmm_xmmm128 (p : EvexPrefix) (m : ModRM) (s : State) : Result :=
  answer { code := .ref .EVEX_Vpacksswb_xmm_k1z_xmm_xmmm128, n := 16 } (.evex p) (some m)
    (fun e => [e.reg .xmm, e.vvvv .xmm, e.rm .xmm .Packed128_Int16]) s

/-- R563: `EVEX.256.66.0F.WIG 63 /r`. -/
def execEvex_vpacksswb_ymm_k1z_ymm_ymmm256 (p : EvexPrefix) (m : ModRM) (s : State) : Result :=
  answer { code := .ref .EVEX_Vpacksswb_ymm_k1z_ymm_ymmm256, n := 32 } (.evex p) (some m)
    (fun e => [e.reg .ymm, e.vvvv .ymm, e.rm .ymm .Packed256_Int16]) s

/-- R564: `EVEX.512.66.0F.WIG 63 /r`. -/
def execEvex_vpacksswb_zmm_k1z_zmm_zmmm512 (p : EvexPrefix) (m : ModRM) (s : State) : Result :=
  answer { code := .ref .EVEX_Vpacksswb_zmm_k1z_zmm_zmmm512, n := 64 } (.evex p) (some m)
    (fun e => [e.reg .zmm, e.vvvv .zmm, e.rm .zmm .Packed512_Int16]) s

/-- R565: `EVEX.128.66.0F.WIG 64 /r`. -/
def execEvex_vpcmpgtb_k_k1_xmm_xmmm128 (p : EvexPrefix) (m : ModRM) (s : State) : Result :=
  answer { code := .ref .EVEX_Vpcmpgtb_k_k1_xmm_xmmm128, n := 16 } (.evex p) (some m)
    (fun e => [e.reg .k, e.vvvv .xmm, e.rm .xmm .Packed128_Int8]) s

/-- R566: `EVEX.256.66.0F.WIG 64 /r`. -/
def execEvex_vpcmpgtb_k_k1_ymm_ymmm256 (p : EvexPrefix) (m : ModRM) (s : State) : Result :=
  answer { code := .ref .EVEX_Vpcmpgtb_k_k1_ymm_ymmm256, n := 32 } (.evex p) (some m)
    (fun e => [e.reg .k, e.vvvv .ymm, e.rm .ymm .Packed256_Int8]) s

/-- R567: `EVEX.512.66.0F.WIG 64 /r`. -/
def execEvex_vpcmpgtb_k_k1_zmm_zmmm512 (p : EvexPrefix) (m : ModRM) (s : State) : Result :=
  answer { code := .ref .EVEX_Vpcmpgtb_k_k1_zmm_zmmm512, n := 64 } (.evex p) (some m)
    (fun e => [e.reg .k, e.vvvv .zmm, e.rm .zmm .Packed512_Int8]) s

/-- R568: `EVEX.128.66.0F.WIG 65 /r`. -/
def execEvex_vpcmpgtw_k_k1_xmm_xmmm128 (p : EvexPrefix) (m : ModRM) (s : State) : Result :=
  answer { code := .ref .EVEX_Vpcmpgtw_k_k1_xmm_xmmm128, n := 16 } (.evex p) (some m)
    (fun e => [e.reg .k, e.vvvv .xmm, e.rm .xmm .Packed128_Int16]) s

/-- R569: `EVEX.256.66.0F.WIG 65 /r`. -/
def execEvex_vpcmpgtw_k_k1_ymm_ymmm256 (p : EvexPrefix) (m : ModRM) (s : State) : Result :=
  answer { code := .ref .EVEX_Vpcmpgtw_k_k1_ymm_ymmm256, n := 32 } (.evex p) (some m)
    (fun e => [e.reg .k, e.vvvv .ymm, e.rm .ymm .Packed256_Int16]) s

/-- R570: `EVEX.512.66.0F.WIG 65 /r`. -/
def execEvex_vpcmpgtw_k_k1_zmm_zmmm512 (p : EvexPrefix) (m : ModRM) (s : State) : Result :=
  answer { code := .ref .EVEX_Vpcmpgtw_k_k1_zmm_zmmm512, n := 64 } (.evex p) (some m)
    (fun e => [e.reg .k, e.vvvv .zmm, e.rm .zmm .Packed512_Int16]) s

/-- R571: `EVEX.128.66.0F.W0 66 /r`. -/
def execEvex_vpcmpgtd_k_k1_xmm_xmmm128b32 (p : EvexPrefix) (m : ModRM) (s : State) : Result :=
  answer { code := .ref .EVEX_Vpcmpgtd_k_k1_xmm_xmmm128b32, n := 16, bcst := 4 } (.evex p) (some m)
    (fun e => [e.reg .k, e.vvvv .xmm, e.rmBcst .xmm .Packed128_Int32 .Broadcast128_Int32]) s

/-- R572: `EVEX.256.66.0F.W0 66 /r`. -/
def execEvex_vpcmpgtd_k_k1_ymm_ymmm256b32 (p : EvexPrefix) (m : ModRM) (s : State) : Result :=
  answer { code := .ref .EVEX_Vpcmpgtd_k_k1_ymm_ymmm256b32, n := 32, bcst := 4 } (.evex p) (some m)
    (fun e => [e.reg .k, e.vvvv .ymm, e.rmBcst .ymm .Packed256_Int32 .Broadcast256_Int32]) s

/-- R573: `EVEX.512.66.0F.W0 66 /r`. -/
def execEvex_vpcmpgtd_k_k1_zmm_zmmm512b32 (p : EvexPrefix) (m : ModRM) (s : State) : Result :=
  answer { code := .ref .EVEX_Vpcmpgtd_k_k1_zmm_zmmm512b32, n := 64, bcst := 4 } (.evex p) (some m)
    (fun e => [e.reg .k, e.vvvv .zmm, e.rmBcst .zmm .Packed512_Int32 .Broadcast512_Int32]) s

/-- R574: `EVEX.128.66.0F.WIG 67 /r`. -/
def execEvex_vpackuswb_xmm_k1z_xmm_xmmm128 (p : EvexPrefix) (m : ModRM) (s : State) : Result :=
  answer { code := .ref .EVEX_Vpackuswb_xmm_k1z_xmm_xmmm128, n := 16 } (.evex p) (some m)
    (fun e => [e.reg .xmm, e.vvvv .xmm, e.rm .xmm .Packed128_Int16]) s

/-- R575: `EVEX.256.66.0F.WIG 67 /r`. -/
def execEvex_vpackuswb_ymm_k1z_ymm_ymmm256 (p : EvexPrefix) (m : ModRM) (s : State) : Result :=
  answer { code := .ref .EVEX_Vpackuswb_ymm_k1z_ymm_ymmm256, n := 32 } (.evex p) (some m)
    (fun e => [e.reg .ymm, e.vvvv .ymm, e.rm .ymm .Packed256_Int16]) s

/-- R576: `EVEX.512.66.0F.WIG 67 /r`. -/
def execEvex_vpackuswb_zmm_k1z_zmm_zmmm512 (p : EvexPrefix) (m : ModRM) (s : State) : Result :=
  answer { code := .ref .EVEX_Vpackuswb_zmm_k1z_zmm_zmmm512, n := 64 } (.evex p) (some m)
    (fun e => [e.reg .zmm, e.vvvv .zmm, e.rm .zmm .Packed512_Int16]) s

/-- R577: `EVEX.128.66.0F.W0 6F /r`. -/
def execEvex_vmovdqa32_xmm_k1z_xmmm128 (p : EvexPrefix) (m : ModRM) (s : State) : Result :=
  answer { code := .ref .EVEX_Vmovdqa32_xmm_k1z_xmmm128, n := 16 } (.evex p) (some m)
    (fun e => [e.reg .xmm, e.rm .xmm .Packed128_Int32]) s

/-- R578: `EVEX.256.66.0F.W0 6F /r`. -/
def execEvex_vmovdqa32_ymm_k1z_ymmm256 (p : EvexPrefix) (m : ModRM) (s : State) : Result :=
  answer { code := .ref .EVEX_Vmovdqa32_ymm_k1z_ymmm256, n := 32 } (.evex p) (some m)
    (fun e => [e.reg .ymm, e.rm .ymm .Packed256_Int32]) s

/-- R579: `EVEX.512.66.0F.W0 6F /r`. -/
def execEvex_vmovdqa32_zmm_k1z_zmmm512 (p : EvexPrefix) (m : ModRM) (s : State) : Result :=
  answer { code := .ref .EVEX_Vmovdqa32_zmm_k1z_zmmm512, n := 64 } (.evex p) (some m)
    (fun e => [e.reg .zmm, e.rm .zmm .Packed512_Int32]) s

/-- R580: `EVEX.128.66.0F.W1 6F /r`. -/
def execEvex_vmovdqa64_xmm_k1z_xmmm128 (p : EvexPrefix) (m : ModRM) (s : State) : Result :=
  answer { code := .ref .EVEX_Vmovdqa64_xmm_k1z_xmmm128, n := 16 } (.evex p) (some m)
    (fun e => [e.reg .xmm, e.rm .xmm .Packed128_Int64]) s

/-- R581: `EVEX.256.66.0F.W1 6F /r`. -/
def execEvex_vmovdqa64_ymm_k1z_ymmm256 (p : EvexPrefix) (m : ModRM) (s : State) : Result :=
  answer { code := .ref .EVEX_Vmovdqa64_ymm_k1z_ymmm256, n := 32 } (.evex p) (some m)
    (fun e => [e.reg .ymm, e.rm .ymm .Packed256_Int64]) s

/-- R582: `EVEX.512.66.0F.W1 6F /r`. -/
def execEvex_vmovdqa64_zmm_k1z_zmmm512 (p : EvexPrefix) (m : ModRM) (s : State) : Result :=
  answer { code := .ref .EVEX_Vmovdqa64_zmm_k1z_zmmm512, n := 64 } (.evex p) (some m)
    (fun e => [e.reg .zmm, e.rm .zmm .Packed512_Int64]) s

end Sys2Proof.Machine
end

