-- ==== Sys2Proof/Machine/LegacyArith.lean ====
section
/-! DEFINITION. Meanings of `Add`, `Cmp`, `Inc`, `Dec`, `Daa` of the one-byte map (spec R400 to R416, R422 to R435, R474 to R481):
the record each row yields, one definition per row, its operands in the row's order as its rule writes them. -/

namespace Sys2Proof.Machine

/-- R400: `00 /r`. -/
def execAdd_rm8_r8 (p : LegacyPrefix) (m : ModRM) (s : State) : Result :=
  answer { code := .ref .Add_rm8_r8, mpAny := true, lockable := true } (.legacy p) (some m)
    (fun e => [e.rm .r8 .UInt8, e.reg .r8]) s

/-- R401: `o16 01 /r`. -/
def execAdd_rm16_r16 (p : LegacyPrefix) (m : ModRM) (s : State) : Result :=
  answer { code := .ref .Add_rm16_r16, mpAny := true, lockable := true } (.legacy p) (some m)
    (fun e => [e.rm .r16 .UInt16, e.reg .r16]) s

/-- R402: `o32 01 /r`. -/
def execAdd_rm32_r32 (p : LegacyPrefix) (m : ModRM) (s : State) : Result :=
  answer { code := .ref .Add_rm32_r32, mpAny := true, lockable := true } (.legacy p) (some m)
    (fun e => [e.rm .r32 .UInt32, e.reg .r32]) s

/-- R403: `o64 01 /r`. -/
def execAdd_rm64_r64 (p : LegacyPrefix) (m : ModRM) (s : State) : Result :=
  answer { code := .ref .Add_rm64_r64, mpAny := true, lockable := true } (.legacy p) (some m)
    (fun e => [e.rm .r64 .UInt64, e.reg .r64]) s

/-- R404: `02 /r`. -/
def execAdd_r8_rm8 (p : LegacyPrefix) (m : ModRM) (s : State) : Result :=
  answer { code := .ref .Add_r8_rm8, mpAny := true } (.legacy p) (some m) (fun e => [e.reg .r8, e.rm .r8 .UInt8]) s

/-- R405: `o16 03 /r`. -/
def execAdd_r16_rm16 (p : LegacyPrefix) (m : ModRM) (s : State) : Result :=
  answer { code := .ref .Add_r16_rm16, mpAny := true } (.legacy p) (some m) (fun e => [e.reg .r16, e.rm .r16 .UInt16]) s

/-- R406: `o32 03 /r`. -/
def execAdd_r32_rm32 (p : LegacyPrefix) (m : ModRM) (s : State) : Result :=
  answer { code := .ref .Add_r32_rm32, mpAny := true } (.legacy p) (some m) (fun e => [e.reg .r32, e.rm .r32 .UInt32]) s

/-- R407: `o64 03 /r`. -/
def execAdd_r64_rm64 (p : LegacyPrefix) (m : ModRM) (s : State) : Result :=
  answer { code := .ref .Add_r64_rm64, mpAny := true } (.legacy p) (some m) (fun e => [e.reg .r64, e.rm .r64 .UInt64]) s

/-- R408: `04 ib`. -/
def execAdd_AL_imm8 (p : LegacyPrefix) (imm : BitVec 8) (s : State) : Result :=
  answer { code := .ref .Add_AL_imm8, mpAny := true } (.legacy p) none (fun _ => [fixedReg (.r8 .AL), immZx imm]) s

/-- R409: `o16 05 iw`. -/
def execAdd_AX_imm16 (p : LegacyPrefix) (imm : BitVec 16) (s : State) : Result :=
  answer { code := .ref .Add_AX_imm16, mpAny := true } (.legacy p) none (fun _ => [fixedReg (.r16 0), immZx imm]) s

/-- R410: `o32 05 id`. -/
def execAdd_EAX_imm32 (p : LegacyPrefix) (imm : BitVec 32) (s : State) : Result :=
  answer { code := .ref .Add_EAX_imm32, mpAny := true } (.legacy p) none (fun _ => [fixedReg (.r32 0), immZx imm]) s

/-- R411: `o64 05 id`. -/
def execAdd_RAX_imm32 (p : LegacyPrefix) (imm : BitVec 32) (s : State) : Result :=
  answer { code := .ref .Add_RAX_imm32, mpAny := true } (.legacy p) none (fun _ => [fixedReg (.r64 0), immSx 64 imm]) s

/-- R412: `27`. -/
def execDaa (p : LegacyPrefix) (s : State) : Result :=
  answer { code := .ref .Daa, mpAny := true } (.legacy p) none (fun _ => []) s

/-- R413: `o16 40+r`. -/
def execInc_r16 (p : LegacyPrefix) (low : BitVec 3) (s : State) : Result :=
  answer { code := .ref .Inc_r16, mpAny := true } (.legacy p) none (fun e => [e.opreg .r16 low]) s

/-- R414: `o32 40+r`. -/
def execInc_r32 (p : LegacyPrefix) (low : BitVec 3) (s : State) : Result :=
  answer { code := .ref .Inc_r32, mpAny := true } (.legacy p) none (fun e => [e.opreg .r32 low]) s

/-- R415: `o16 48+r`. -/
def execDec_r16 (p : LegacyPrefix) (low : BitVec 3) (s : State) : Result :=
  answer { code := .ref .Dec_r16, mpAny := true } (.legacy p) none (fun e => [e.opreg .r16 low]) s

/-- R416: `o32 48+r`. -/
def execDec_r32 (p : LegacyPrefix) (low : BitVec 3) (s : State) : Result :=
  answer { code := .ref .Dec_r32, mpAny := true } (.legacy p) none (fun e => [e.opreg .r32 low]) s

/-- R422: `80 /0 ib`. -/
def execAdd_rm8_imm8 (p : LegacyPrefix) (m : ModRM) (imm : BitVec 8) (s : State) : Result :=
  answer { code := .ref .Add_rm8_imm8, mpAny := true, lockable := true } (.legacy p) (some m)
    (fun e => [e.rm .r8 .UInt8, immZx imm]) s

/-- R423: `80 /7 ib`. -/
def execCmp_rm8_imm8 (p : LegacyPrefix) (m : ModRM) (imm : BitVec 8) (s : State) : Result :=
  answer { code := .ref .Cmp_rm8_imm8, mpAny := true } (.legacy p) (some m) (fun e => [e.rm .r8 .UInt8, immZx imm]) s

/-- R424: `o16 81 /0 iw`. -/
def execAdd_rm16_imm16 (p : LegacyPrefix) (m : ModRM) (imm : BitVec 16) (s : State) : Result :=
  answer { code := .ref .Add_rm16_imm16, mpAny := true, lockable := true } (.legacy p) (some m)
    (fun e => [e.rm .r16 .UInt16, immZx imm]) s

/-- R425: `o32 81 /0 id`. -/
def execAdd_rm32_imm32 (p : LegacyPrefix) (m : ModRM) (imm : BitVec 32) (s : State) : Result :=
  answer { code := .ref .Add_rm32_imm32, mpAny := true, lockable := true } (.legacy p) (some m)
    (fun e => [e.rm .r32 .UInt32, immZx imm]) s

/-- R426: `o64 81 /0 id`. -/
def execAdd_rm64_imm32 (p : LegacyPrefix) (m : ModRM) (imm : BitVec 32) (s : State) : Result :=
  answer { code := .ref .Add_rm64_imm32, mpAny := true, lockable := true } (.legacy p) (some m)
    (fun e => [e.rm .r64 .UInt64, immSx 64 imm]) s

/-- R427: `o16 81 /7 iw`. -/
def execCmp_rm16_imm16 (p : LegacyPrefix) (m : ModRM) (imm : BitVec 16) (s : State) : Result :=
  answer { code := .ref .Cmp_rm16_imm16, mpAny := true } (.legacy p) (some m) (fun e => [e.rm .r16 .UInt16, immZx imm]) s

/-- R428: `o32 81 /7 id`. -/
def execCmp_rm32_imm32 (p : LegacyPrefix) (m : ModRM) (imm : BitVec 32) (s : State) : Result :=
  answer { code := .ref .Cmp_rm32_imm32, mpAny := true } (.legacy p) (some m) (fun e => [e.rm .r32 .UInt32, immZx imm]) s

/-- R429: `o64 81 /7 id`. -/
def execCmp_rm64_imm32 (p : LegacyPrefix) (m : ModRM) (imm : BitVec 32) (s : State) : Result :=
  answer { code := .ref .Cmp_rm64_imm32, mpAny := true } (.legacy p) (some m) (fun e => [e.rm .r64 .UInt64, immSx 64 imm]) s

/-- R430: `o16 83 /0 ib`. -/
def execAdd_rm16_imm8 (p : LegacyPrefix) (m : ModRM) (imm : BitVec 8) (s : State) : Result :=
  answer { code := .ref .Add_rm16_imm8, mpAny := true, lockable := true } (.legacy p) (some m)
    (fun e => [e.rm .r16 .UInt16, immSx 16 imm]) s

/-- R431: `o32 83 /0 ib`. -/
def execAdd_rm32_imm8 (p : LegacyPrefix) (m : ModRM) (imm : BitVec 8) (s : State) : Result :=
  answer { code := .ref .Add_rm32_imm8, mpAny := true, lockable := true } (.legacy p) (some m)
    (fun e => [e.rm .r32 .UInt32, immSx 32 imm]) s

/-- R432: `o64 83 /0 ib`. -/
def execAdd_rm64_imm8 (p : LegacyPrefix) (m : ModRM) (imm : BitVec 8) (s : State) : Result :=
  answer { code := .ref .Add_rm64_imm8, mpAny := true, lockable := true } (.legacy p) (some m)
    (fun e => [e.rm .r64 .UInt64, immSx 64 imm]) s

/-- R433: `o16 83 /7 ib`. -/
def execCmp_rm16_imm8 (p : LegacyPrefix) (m : ModRM) (imm : BitVec 8) (s : State) : Result :=
  answer { code := .ref .Cmp_rm16_imm8, mpAny := true } (.legacy p) (some m) (fun e => [e.rm .r16 .UInt16, immSx 16 imm]) s

/-- R434: `o32 83 /7 ib`. -/
def execCmp_rm32_imm8 (p : LegacyPrefix) (m : ModRM) (imm : BitVec 8) (s : State) : Result :=
  answer { code := .ref .Cmp_rm32_imm8, mpAny := true } (.legacy p) (some m) (fun e => [e.rm .r32 .UInt32, immSx 32 imm]) s

/-- R435: `o64 83 /7 ib`. -/
def execCmp_rm64_imm8 (p : LegacyPrefix) (m : ModRM) (imm : BitVec 8) (s : State) : Result :=
  answer { code := .ref .Cmp_rm64_imm8, mpAny := true } (.legacy p) (some m) (fun e => [e.rm .r64 .UInt64, immSx 64 imm]) s

/-- R474: `FE /0`. -/
def execInc_rm8 (p : LegacyPrefix) (m : ModRM) (s : State) : Result :=
  answer { code := .ref .Inc_rm8, mpAny := true, lockable := true } (.legacy p) (some m) (fun e => [e.rm .r8 .UInt8]) s

/-- R475: `FE /1`. -/
def execDec_rm8 (p : LegacyPrefix) (m : ModRM) (s : State) : Result :=
  answer { code := .ref .Dec_rm8, mpAny := true, lockable := true } (.legacy p) (some m) (fun e => [e.rm .r8 .UInt8]) s

/-- R476: `o16 FF /0`. -/
def execInc_rm16 (p : LegacyPrefix) (m : ModRM) (s : State) : Result :=
  answer { code := .ref .Inc_rm16, mpAny := true, lockable := true } (.legacy p) (some m) (fun e => [e.rm .r16 .UInt16]) s

/-- R477: `o32 FF /0`. -/
def execInc_rm32 (p : LegacyPrefix) (m : ModRM) (s : State) : Result :=
  answer { code := .ref .Inc_rm32, mpAny := true, lockable := true } (.legacy p) (some m) (fun e => [e.rm .r32 .UInt32]) s

/-- R478: `o64 FF /0`. -/
def execInc_rm64 (p : LegacyPrefix) (m : ModRM) (s : State) : Result :=
  answer { code := .ref .Inc_rm64, mpAny := true, lockable := true } (.legacy p) (some m) (fun e => [e.rm .r64 .UInt64]) s

/-- R479: `o16 FF /1`. -/
def execDec_rm16 (p : LegacyPrefix) (m : ModRM) (s : State) : Result :=
  answer { code := .ref .Dec_rm16, mpAny := true, lockable := true } (.legacy p) (some m) (fun e => [e.rm .r16 .UInt16]) s

/-- R480: `o32 FF /1`. -/
def execDec_rm32 (p : LegacyPrefix) (m : ModRM) (s : State) : Result :=
  answer { code := .ref .Dec_rm32, mpAny := true, lockable := true } (.legacy p) (some m) (fun e => [e.rm .r32 .UInt32]) s

/-- R481: `o64 FF /1`. -/
def execDec_rm64 (p : LegacyPrefix) (m : ModRM) (s : State) : Result :=
  answer { code := .ref .Dec_rm64, mpAny := true, lockable := true } (.legacy p) (some m) (fun e => [e.rm .r64 .UInt64]) s

end Sys2Proof.Machine
end

