-- ==== Sys2Proof/Machine/LegacyBranch.lean ====
section
/-! DEFINITION. Meanings of `Je`, `Call`, `Jmp` (spec R419 to R421, R464 to R472, R507 to R509):
the record each row yields, one definition per row, its operands in the row's order as its rule writes them. -/

namespace Sys2Proof.Machine

/-- R419: `o16 74 cb`. -/
def execJe_rel8_16 (p : LegacyPrefix) (rel : BitVec 8) (s : State) : Result :=
  answer { code := .ref .Je_rel8_16, mpAny := true } (.legacy p) none (fun e => [e.near 16 rel]) s

/-- R420: `o32 74 cb`. -/
def execJe_rel8_32 (p : LegacyPrefix) (rel : BitVec 8) (s : State) : Result :=
  answer { code := .ref .Je_rel8_32, mpAny := true } (.legacy p) none (fun e => [e.near 32 rel]) s

/-- R421: `74 cb`. -/
def execJe_rel8_64 (p : LegacyPrefix) (rel : BitVec 8) (s : State) : Result :=
  answer { code := .ref .Je_rel8_64, mpAny := true } (.legacy p) none (fun e => [e.near 64 rel]) s

/-- R464: `o16 E8 cw`. -/
def execCall_rel16 (p : LegacyPrefix) (rel : BitVec 16) (s : State) : Result :=
  answer { code := .ref .Call_rel16, mpAny := true } (.legacy p) none (fun e => [e.near 16 rel]) s

/-- R465: `o32 E8 cd`. -/
def execCall_rel32_32 (p : LegacyPrefix) (rel : BitVec 32) (s : State) : Result :=
  answer { code := .ref .Call_rel32_32, mpAny := true } (.legacy p) none (fun e => [e.near 32 rel]) s

/-- R466: `E8 cd`. -/
def execCall_rel32_64 (p : LegacyPrefix) (rel : BitVec 32) (s : State) : Result :=
  answer { code := .ref .Call_rel32_64, mpAny := true } (.legacy p) none (fun e => [e.near 64 rel]) s

/-- R467: `o16 E9 cw`. -/
def execJmp_rel16 (p : LegacyPrefix) (rel : BitVec 16) (s : State) : Result :=
  answer { code := .ref .Jmp_rel16, mpAny := true } (.legacy p) none (fun e => [e.near 16 rel]) s

/-- R468: `o32 E9 cd`. -/
def execJmp_rel32_32 (p : LegacyPrefix) (rel : BitVec 32) (s : State) : Result :=
  answer { code := .ref .Jmp_rel32_32, mpAny := true } (.legacy p) none (fun e => [e.near 32 rel]) s

/-- R469: `E9 cd`. -/
def execJmp_rel32_64 (p : LegacyPrefix) (rel : BitVec 32) (s : State) : Result :=
  answer { code := .ref .Jmp_rel32_64, mpAny := true } (.legacy p) none (fun e => [e.near 64 rel]) s

/-- R470: `o16 EB cb`. -/
def execJmp_rel8_16 (p : LegacyPrefix) (rel : BitVec 8) (s : State) : Result :=
  answer { code := .ref .Jmp_rel8_16, mpAny := true } (.legacy p) none (fun e => [e.near 16 rel]) s

/-- R471: `o32 EB cb`. -/
def execJmp_rel8_32 (p : LegacyPrefix) (rel : BitVec 8) (s : State) : Result :=
  answer { code := .ref .Jmp_rel8_32, mpAny := true } (.legacy p) none (fun e => [e.near 32 rel]) s

/-- R472: `EB cb`. -/
def execJmp_rel8_64 (p : LegacyPrefix) (rel : BitVec 8) (s : State) : Result :=
  answer { code := .ref .Jmp_rel8_64, mpAny := true } (.legacy p) none (fun e => [e.near 64 rel]) s

/-- R507: `o16 0F 84 cw`. -/
def execJe_rel16 (p : LegacyPrefix) (rel : BitVec 16) (s : State) : Result :=
  answer { code := .ref .Je_rel16, mpAny := true } (.legacy p) none (fun e => [e.near 16 rel]) s

/-- R508: `o32 0F 84 cd`. -/
def execJe_rel32_32 (p : LegacyPrefix) (rel : BitVec 32) (s : State) : Result :=
  answer { code := .ref .Je_rel32_32, mpAny := true } (.legacy p) none (fun e => [e.near 32 rel]) s

/-- R509: `0F 84 cd`. -/
def execJe_rel32_64 (p : LegacyPrefix) (rel : BitVec 32) (s : State) : Result :=
  answer { code := .ref .Je_rel32_64, mpAny := true } (.legacy p) none (fun e => [e.near 64 rel]) s

end Sys2Proof.Machine
end

