-- ==== Sys2Proof/Machine/LegacyMov.lean ====
section
/-! DEFINITION. Meanings of `Mov` and `Lea` of the one-byte map (spec R436 to R458):
the record each row yields, one definition per row, its operands in the row's order as its rule writes them. -/

namespace Sys2Proof.Machine

/-- R436: `88 /r`. -/
def execMov_rm8_r8 (p : LegacyPrefix) (m : ModRM) (s : State) : Result :=
  answer { code := .ref .Mov_rm8_r8, mpAny := true } (.legacy p) (some m) (fun e => [e.rm .r8 .UInt8, e.reg .r8]) s

/-- R437: `o16 89 /r`. -/
def execMov_rm16_r16 (p : LegacyPrefix) (m : ModRM) (s : State) : Result :=
  answer { code := .ref .Mov_rm16_r16, mpAny := true } (.legacy p) (some m) (fun e => [e.rm .r16 .UInt16, e.reg .r16]) s

/-- R438: `o32 89 /r`. -/
def execMov_rm32_r32 (p : LegacyPrefix) (m : ModRM) (s : State) : Result :=
  answer { code := .ref .Mov_rm32_r32, mpAny := true } (.legacy p) (some m) (fun e => [e.rm .r32 .UInt32, e.reg .r32]) s

/-- R439: `o64 89 /r`. -/
def execMov_rm64_r64 (p : LegacyPrefix) (m : ModRM) (s : State) : Result :=
  answer { code := .ref .Mov_rm64_r64, mpAny := true } (.legacy p) (some m) (fun e => [e.rm .r64 .UInt64, e.reg .r64]) s

/-- R440: `8A /r`. -/
def execMov_r8_rm8 (p : LegacyPrefix) (m : ModRM) (s : State) : Result :=
  answer { code := .ref .Mov_r8_rm8, mpAny := true } (.legacy p) (some m) (fun e => [e.reg .r8, e.rm .r8 .UInt8]) s

/-- R441: `o16 8B /r`. -/
def execMov_r16_rm16 (p : LegacyPrefix) (m : ModRM) (s : State) : Result :=
  answer { code := .ref .Mov_r16_rm16, mpAny := true } (.legacy p) (some m) (fun e => [e.reg .r16, e.rm .r16 .UInt16]) s

/-- R442: `o32 8B /r`. -/
def execMov_r32_rm32 (p : LegacyPrefix) (m : ModRM) (s : State) : Result :=
  answer { code := .ref .Mov_r32_rm32, mpAny := true } (.legacy p) (some m) (fun e => [e.reg .r32, e.rm .r32 .UInt32]) s

/-- R443: `o64 8B /r`. -/
def execMov_r64_rm64 (p : LegacyPrefix) (m : ModRM) (s : State) : Result :=
  answer { code := .ref .Mov_r64_rm64, mpAny := true } (.legacy p) (some m) (fun e => [e.reg .r64, e.rm .r64 .UInt64]) s

/-- R444: `o16 8D /r (mem)`. -/
def execLea_r16_m (p : LegacyPrefix) (m : ModRM) (s : State) : Result :=
  answer { code := .ref .Lea_r16_m, mpAny := true } (.legacy p) (some m) (fun e => [e.reg .r16, e.memory .Unknown]) s

/-- R445: `o32 8D /r (mem)`. -/
def execLea_r32_m (p : LegacyPrefix) (m : ModRM) (s : State) : Result :=
  answer { code := .ref .Lea_r32_m, mpAny := true } (.legacy p) (some m) (fun e => [e.reg .r32, e.memory .Unknown]) s

/-- R446: `o64 8D /r (mem)`. -/
def execLea_r64_m (p : LegacyPrefix) (m : ModRM) (s : State) : Result :=
  answer { code := .ref .Lea_r64_m, mpAny := true } (.legacy p) (some m) (fun e => [e.reg .r64, e.memory .Unknown]) s

/-- R447: `A0 moffs`. -/
def execMov_AL_moffs8 (p : LegacyPrefix) (a : Moffs) (s : State) : Result :=
  answer { code := .ref .Mov_AL_moffs8, mpAny := true } (.legacy p) none (fun e => [fixedReg (.r8 .AL), e.moffs a .UInt8]) s

/-- R448: `o16 A1 moffs`. -/
def execMov_AX_moffs16 (p : LegacyPrefix) (a : Moffs) (s : State) : Result :=
  answer { code := .ref .Mov_AX_moffs16, mpAny := true } (.legacy p) none (fun e => [fixedReg (.r16 0), e.moffs a .UInt16]) s

/-- R449: `o32 A1 moffs`. -/
def execMov_EAX_moffs32 (p : LegacyPrefix) (a : Moffs) (s : State) : Result :=
  answer { code := .ref .Mov_EAX_moffs32, mpAny := true } (.legacy p) none
    (fun e => [fixedReg (.r32 0), e.moffs a .UInt32]) s

/-- R450: `o64 A1 moffs`. -/
def execMov_RAX_moffs64 (p : LegacyPrefix) (a : Moffs) (s : State) : Result :=
  answer { code := .ref .Mov_RAX_moffs64, mpAny := true } (.legacy p) none
    (fun e => [fixedReg (.r64 0), e.moffs a .UInt64]) s

/-- R451: `A2 moffs`. -/
def execMov_moffs8_AL (p : LegacyPrefix) (a : Moffs) (s : State) : Result :=
  answer { code := .ref .Mov_moffs8_AL, mpAny := true } (.legacy p) none (fun e => [e.moffs a .UInt8, fixedReg (.r8 .AL)]) s

/-- R452: `o16 A3 moffs`. -/
def execMov_moffs16_AX (p : LegacyPrefix) (a : Moffs) (s : State) : Result :=
  answer { code := .ref .Mov_moffs16_AX, mpAny := true } (.legacy p) none (fun e => [e.moffs a .UInt16, fixedReg (.r16 0)]) s

/-- R453: `o32 A3 moffs`. -/
def execMov_moffs32_EAX (p : LegacyPrefix) (a : Moffs) (s : State) : Result :=
  answer { code := .ref .Mov_moffs32_EAX, mpAny := true } (.legacy p) none
    (fun e => [e.moffs a .UInt32, fixedReg (.r32 0)]) s

/-- R454: `o64 A3 moffs`. -/
def execMov_moffs64_RAX (p : LegacyPrefix) (a : Moffs) (s : State) : Result :=
  answer { code := .ref .Mov_moffs64_RAX, mpAny := true } (.legacy p) none
    (fun e => [e.moffs a .UInt64, fixedReg (.r64 0)]) s

/-- R455: `B0+r ib`. -/
def execMov_r8_imm8 (p : LegacyPrefix) (low : BitVec 3) (imm : BitVec 8) (s : State) : Result :=
  answer { code := .ref .Mov_r8_imm8, mpAny := true } (.legacy p) none (fun e => [e.opreg .r8 low, immZx imm]) s

/-- R456: `o16 B8+r iw`. -/
def execMov_r16_imm16 (p : LegacyPrefix) (low : BitVec 3) (imm : BitVec 16) (s : State) : Result :=
  answer { code := .ref .Mov_r16_imm16, mpAny := true } (.legacy p) none (fun e => [e.opreg .r16 low, immZx imm]) s

/-- R457: `o32 B8+r id`. -/
def execMov_r32_imm32 (p : LegacyPrefix) (low : BitVec 3) (imm : BitVec 32) (s : State) : Result :=
  answer { code := .ref .Mov_r32_imm32, mpAny := true } (.legacy p) none (fun e => [e.opreg .r32 low, immZx imm]) s

/-- R458: `o64 B8+r io`. -/
def execMov_r64_imm64 (p : LegacyPrefix) (low : BitVec 3) (imm : BitVec 64) (s : State) : Result :=
  answer { code := .ref .Mov_r64_imm64, mpAny := true } (.legacy p) none (fun e => [e.opreg .r64 low, immZx imm]) s

end Sys2Proof.Machine
end

