-- ==== Sys2Proof/Machine/LegacySimd.lean ====
section
/-! DEFINITION. Meanings of the MMX and SSE rows of map `0F` (spec R483 to R506):
the record each row yields, one definition per row, its operands in the row's order as its rule writes them. -/

namespace Sys2Proof.Machine

/-- R483: `NP 0F 58 /r`. -/
def execAddps_xmm_xmmm128 (p : LegacyPrefix) (m : ModRM) (s : State) : Result :=
  answer { code := .ref .Addps_xmm_xmmm128 } (.legacy p) (some m) (fun e => [e.reg .xmm, e.rm .xmm .Packed128_Float32]) s

/-- R484: `66 0F 58 /r`. -/
def execAddpd_xmm_xmmm128 (p : LegacyPrefix) (m : ModRM) (s : State) : Result :=
  answer { code := .ref .Addpd_xmm_xmmm128 } (.legacy p) (some m) (fun e => [e.reg .xmm, e.rm .xmm .Packed128_Float64]) s

/-- R485: `F3 0F 58 /r`. -/
def execAddss_xmm_xmmm32 (p : LegacyPrefix) (m : ModRM) (s : State) : Result :=
  answer { code := .ref .Addss_xmm_xmmm32 } (.legacy p) (some m) (fun e => [e.reg .xmm, e.rm .xmm .Float32]) s

/-- R486: `F2 0F 58 /r`. -/
def execAddsd_xmm_xmmm64 (p : LegacyPrefix) (m : ModRM) (s : State) : Result :=
  answer { code := .ref .Addsd_xmm_xmmm64 } (.legacy p) (some m) (fun e => [e.reg .xmm, e.rm .xmm .Float64]) s

/-- R487: `NP 0F 60 /r`. -/
def execPunpcklbw_mm_mmm32 (p : LegacyPrefix) (m : ModRM) (s : State) : Result :=
  answer { code := .ref .Punpcklbw_mm_mmm32 } (.legacy p) (some m) (fun e => [e.reg .mm, e.rm .mm .Packed32_Int8]) s

/-- R488: `66 0F 60 /r`. -/
def execPunpcklbw_xmm_xmmm128 (p : LegacyPrefix) (m : ModRM) (s : State) : Result :=
  answer { code := .ref .Punpcklbw_xmm_xmmm128 } (.legacy p) (some m) (fun e => [e.reg .xmm, e.rm .xmm .Packed128_Int8]) s

/-- R489: `NP 0F 61 /r`. -/
def execPunpcklwd_mm_mmm32 (p : LegacyPrefix) (m : ModRM) (s : State) : Result :=
  answer { code := .ref .Punpcklwd_mm_mmm32 } (.legacy p) (some m) (fun e => [e.reg .mm, e.rm .mm .Packed32_Int16]) s

/-- R490: `66 0F 61 /r`. -/
def execPunpcklwd_xmm_xmmm128 (p : LegacyPrefix) (m : ModRM) (s : State) : Result :=
  answer { code := .ref .Punpcklwd_xmm_xmmm128 } (.legacy p) (some m) (fun e => [e.reg .xmm, e.rm .xmm .Packed128_Int16]) s

/-- R491: `NP 0F 62 /r`. -/
def execPunpckldq_mm_mmm32 (p : LegacyPrefix) (m : ModRM) (s : State) : Result :=
  answer { code := .ref .Punpckldq_mm_mmm32 } (.legacy p) (some m) (fun e => [e.reg .mm, e.rm .mm .Int32]) s

/-- R492: `66 0F 62 /r`. -/
def execPunpckldq_xmm_xmmm128 (p : LegacyPrefix) (m : ModRM) (s : State) : Result :=
  answer { code := .ref .Punpckldq_xmm_xmmm128 } (.legacy p) (some m) (fun e => [e.reg .xmm, e.rm .xmm .Packed128_Int32]) s

/-- R493: `NP 0F 63 /r`. -/
def execPacksswb_mm_mmm64 (p : LegacyPrefix) (m : ModRM) (s : State) : Result :=
  answer { code := .ref .Packsswb_mm_mmm64 } (.legacy p) (some m) (fun e => [e.reg .mm, e.rm .mm .Packed64_Int16]) s

/-- R494: `66 0F 63 /r`. -/
def execPacksswb_xmm_xmmm128 (p : LegacyPrefix) (m : ModRM) (s : State) : Result :=
  answer { code := .ref .Packsswb_xmm_xmmm128 } (.legacy p) (some m) (fun e => [e.reg .xmm, e.rm .xmm .Packed128_Int16]) s

/-- R495: `NP 0F 64 /r`. -/
def execPcmpgtb_mm_mmm64 (p : LegacyPrefix) (m : ModRM) (s : State) : Result :=
  answer { code := .ref .Pcmpgtb_mm_mmm64 } (.legacy p) (some m) (fun e => [e.reg .mm, e.rm .mm .Packed64_Int8]) s

/-- R496: `66 0F 64 /r`. -/
def execPcmpgtb_xmm_xmmm128 (p : LegacyPrefix) (m : ModRM) (s : State) : Result :=
  answer { code := .ref .Pcmpgtb_xmm_xmmm128 } (.legacy p) (some m) (fun e => [e.reg .xmm, e.rm .xmm .Packed128_Int8]) s

/-- R497: `NP 0F 65 /r`. -/
def execPcmpgtw_mm_mmm64 (p : LegacyPrefix) (m : ModRM) (s : State) : Result :=
  answer { code := .ref .Pcmpgtw_mm_mmm64 } (.legacy p) (some m) (fun e => [e.reg .mm, e.rm .mm .Packed64_Int16]) s

/-- R498: `66 0F 65 /r`. -/
def execPcmpgtw_xmm_xmmm128 (p : LegacyPrefix) (m : ModRM) (s : State) : Result :=
  answer { code := .ref .Pcmpgtw_xmm_xmmm128 } (.legacy p) (some m) (fun e => [e.reg .xmm, e.rm .xmm .Packed128_Int16]) s

/-- R499: `NP 0F 66 /r`. -/
def execPcmpgtd_mm_mmm64 (p : LegacyPrefix) (m : ModRM) (s : State) : Result :=
  answer { code := .ref .Pcmpgtd_mm_mmm64 } (.legacy p) (some m) (fun e => [e.reg .mm, e.rm .mm .Packed64_Int32]) s

/-- R500: `66 0F 66 /r`. -/
def execPcmpgtd_xmm_xmmm128 (p : LegacyPrefix) (m : ModRM) (s : State) : Result :=
  answer { code := .ref .Pcmpgtd_xmm_xmmm128 } (.legacy p) (some m) (fun e => [e.reg .xmm, e.rm .xmm .Packed128_Int32]) s

/-- R501: `NP 0F 67 /r`. -/
def execPackuswb_mm_mmm64 (p : LegacyPrefix) (m : ModRM) (s : State) : Result :=
  answer { code := .ref .Packuswb_mm_mmm64 } (.legacy p) (some m) (fun e => [e.reg .mm, e.rm .mm .Packed64_Int16]) s

/-- R502: `66 0F 67 /r`. -/
def execPackuswb_xmm_xmmm128 (p : LegacyPrefix) (m : ModRM) (s : State) : Result :=
  answer { code := .ref .Packuswb_xmm_xmmm128 } (.legacy p) (some m) (fun e => [e.reg .xmm, e.rm .xmm .Packed128_Int16]) s

/-- R503: `NP W0 0F 6E /r`. -/
def execMovd_mm_rm32 (p : LegacyPrefix) (m : ModRM) (s : State) : Result :=
  answer { code := .ref .Movd_mm_rm32 } (.legacy p) (some m) (fun e => [e.reg .mm, e.rm .r32 .UInt32]) s

/-- R504: `NP W1 0F 6E /r`. -/
def execMovq_mm_rm64 (p : LegacyPrefix) (m : ModRM) (s : State) : Result :=
  answer { code := .ref .Movq_mm_rm64 } (.legacy p) (some m) (fun e => [e.reg .mm, e.rm .r64 .UInt64]) s

/-- R505: `66 W0 0F 6E /r`. -/
def execMovd_xmm_rm32 (p : LegacyPrefix) (m : ModRM) (s : State) : Result :=
  answer { code := .ref .Movd_xmm_rm32 } (.legacy p) (some m) (fun e => [e.reg .xmm, e.rm .r32 .UInt32]) s

/-- R506: `66 W1 0F 6E /r`. -/
def execMovq_xmm_rm64 (p : LegacyPrefix) (m : ModRM) (s : State) : Result :=
  answer { code := .ref .Movq_xmm_rm64 } (.legacy p) (some m) (fun e => [e.reg .xmm, e.rm .r64 .UInt64]) s

end Sys2Proof.Machine
end

