-- ==== Sys2Proof/Machine/LegacySystem.lean ====
section
/-! DEFINITION. Meanings of `Bound`, `Les`, `Lds`, `Int3`, `Hlt`, `Syscall`, and the group 0F AE (spec R417, R418, R459 to R463, R473, R482, R510 to R519). They decode like any other row: the block executes nothing (R346):
the record each row yields, one definition per row, its operands in the row's order as its rule writes them. -/

namespace Sys2Proof.Machine

/-- R417: `o16 62 /r (mem)`. -/
def execBound_r16_m1616 (p : LegacyPrefix) (m : ModRM) (s : State) : Result :=
  answer { code := .ref .Bound_r16_m1616, mpAny := true } (.legacy p) (some m)
    (fun e => [e.reg .r16, e.memory .Bound16_WordWord]) s

/-- R418: `o32 62 /r (mem)`. -/
def execBound_r32_m3232 (p : LegacyPrefix) (m : ModRM) (s : State) : Result :=
  answer { code := .ref .Bound_r32_m3232, mpAny := true } (.legacy p) (some m)
    (fun e => [e.reg .r32, e.memory .Bound32_DwordDword]) s

/-- R459: `o16 C4 /r (mem)`. -/
def execLes_r16_m1616 (p : LegacyPrefix) (m : ModRM) (s : State) : Result :=
  answer { code := .ref .Les_r16_m1616, mpAny := true } (.legacy p) (some m) (fun e => [e.reg .r16, e.memory .SegPtr16]) s

/-- R460: `o32 C4 /r (mem)`. -/
def execLes_r32_m1632 (p : LegacyPrefix) (m : ModRM) (s : State) : Result :=
  answer { code := .ref .Les_r32_m1632, mpAny := true } (.legacy p) (some m) (fun e => [e.reg .r32, e.memory .SegPtr32]) s

/-- R461: `o16 C5 /r (mem)`. -/
def execLds_r16_m1616 (p : LegacyPrefix) (m : ModRM) (s : State) : Result :=
  answer { code := .ref .Lds_r16_m1616, mpAny := true } (.legacy p) (some m) (fun e => [e.reg .r16, e.memory .SegPtr16]) s

/-- R462: `o32 C5 /r (mem)`. -/
def execLds_r32_m1632 (p : LegacyPrefix) (m : ModRM) (s : State) : Result :=
  answer { code := .ref .Lds_r32_m1632, mpAny := true } (.legacy p) (some m) (fun e => [e.reg .r32, e.memory .SegPtr32]) s

/-- R463: `CC`. -/
def execInt3 (p : LegacyPrefix) (s : State) : Result :=
  answer { code := .ref .Int3, mpAny := true } (.legacy p) none (fun _ => []) s

/-- R473: `F4`. -/
def execHlt (p : LegacyPrefix) (s : State) : Result :=
  answer { code := .ref .Hlt, mpAny := true } (.legacy p) none (fun _ => []) s

/-- R482: `0F 05`. -/
def execSyscall (p : LegacyPrefix) (s : State) : Result :=
  answer { code := .ref .Syscall, mpAny := true } (.legacy p) none (fun _ => []) s

/-- R510: `NP W0 0F AE /0 (mem)`. -/
def execFxsave_m512byte (p : LegacyPrefix) (m : ModRM) (s : State) : Result :=
  answer { code := .ref .Fxsave_m512byte } (.legacy p) (some m) (fun e => [e.memory .Fxsave_512Byte]) s

/-- R511: `NP W1 0F AE /0 (mem)`. -/
def execFxsave64_m512byte (p : LegacyPrefix) (m : ModRM) (s : State) : Result :=
  answer { code := .ref .Fxsave64_m512byte } (.legacy p) (some m) (fun e => [e.memory .Fxsave64_512Byte]) s

/-- R512: `NP W0 0F AE /1 (mem)`. -/
def execFxrstor_m512byte (p : LegacyPrefix) (m : ModRM) (s : State) : Result :=
  answer { code := .ref .Fxrstor_m512byte } (.legacy p) (some m) (fun e => [e.memory .Fxsave_512Byte]) s

/-- R513: `NP W1 0F AE /1 (mem)`. -/
def execFxrstor64_m512byte (p : LegacyPrefix) (m : ModRM) (s : State) : Result :=
  answer { code := .ref .Fxrstor64_m512byte } (.legacy p) (some m) (fun e => [e.memory .Fxsave64_512Byte]) s

/-- R514: `NP 0F AE /2 (mem)`. -/
def execLdmxcsr_m32 (p : LegacyPrefix) (m : ModRM) (s : State) : Result :=
  answer { code := .ref .Ldmxcsr_m32 } (.legacy p) (some m) (fun e => [e.memory .UInt32]) s

/-- R515: `NP 0F AE /3 (mem)`. -/
def execStmxcsr_m32 (p : LegacyPrefix) (m : ModRM) (s : State) : Result :=
  answer { code := .ref .Stmxcsr_m32 } (.legacy p) (some m) (fun e => [e.memory .UInt32]) s

/-- R516: `NP 0F AE /7 (mem)`. -/
def execClflush_m8 (p : LegacyPrefix) (m : ModRM) (s : State) : Result :=
  answer { code := .ref .Clflush_m8 } (.legacy p) (some m) (fun e => [e.memory .UInt8]) s

/-- R517: `NP 0F AE /5 (reg)`. -/
def execLfence (p : LegacyPrefix) (m : ModRM) (s : State) : Result :=
  answer { code := .ref .Lfence } (.legacy p) (some m) (fun _ => []) s

/-- R518: `NP 0F AE /6 (reg)`. -/
def execMfence (p : LegacyPrefix) (m : ModRM) (s : State) : Result :=
  answer { code := .ref .Mfence } (.legacy p) (some m) (fun _ => []) s

/-- R519: `NP 0F AE /7 (reg)`. -/
def execSfence (p : LegacyPrefix) (m : ModRM) (s : State) : Result :=
  answer { code := .ref .Sfence } (.legacy p) (some m) (fun _ => []) s

end Sys2Proof.Machine
end

