-- ==== Sys2Proof/Machine/Vex.lean ====
section
/-! DEFINITION. Meanings of the VEX rows (spec R520 to R541):
the record each row yields, one definition per row, its operands in the row's order as its rule writes them. -/

namespace Sys2Proof.Machine

/-- R520: `VEX.128.NP.0F.WIG 58 /r`. -/
def execVex_vaddps_xmm_xmm_xmmm128 (p : VexPrefix) (m : ModRM) (s : State) : Result :=
  answer { code := .ref .VEX_Vaddps_xmm_xmm_xmmm128 } (.vex p) (some m)
    (fun e => [e.reg .xmm, e.vvvv .xmm, e.rm .xmm .Packed128_Float32]) s

/-- R521: `VEX.256.NP.0F.WIG 58 /r`. -/
def execVex_vaddps_ymm_ymm_ymmm256 (p : VexPrefix) (m : ModRM) (s : State) : Result :=
  answer { code := .ref .VEX_Vaddps_ymm_ymm_ymmm256 } (.vex p) (some m)
    (fun e => [e.reg .ymm, e.vvvv .ymm, e.rm .ymm .Packed256_Float32]) s

/-- R522: `VEX.128.66.0F.WIG 58 /r`. -/
def execVex_vaddpd_xmm_xmm_xmmm128 (p : VexPrefix) (m : ModRM) (s : State) : Result :=
  answer { code := .ref .VEX_Vaddpd_xmm_xmm_xmmm128 } (.vex p) (some m)
    (fun e => [e.reg .xmm, e.vvvv .xmm, e.rm .xmm .Packed128_Float64]) s

/-- R523: `VEX.256.66.0F.WIG 58 /r`. -/
def execVex_vaddpd_ymm_ymm_ymmm256 (p : VexPrefix) (m : ModRM) (s : State) : Result :=
  answer { code := .ref .VEX_Vaddpd_ymm_ymm_ymmm256 } (.vex p) (some m)
    (fun e => [e.reg .ymm, e.vvvv .ymm, e.rm .ymm .Packed256_Float64]) s

/-- R524: `VEX.LIG.F3.0F.WIG 58 /r`. -/
def execVex_vaddss_xmm_xmm_xmmm32 (p : VexPrefix) (m : ModRM) (s : State) : Result :=
  answer { code := .ref .VEX_Vaddss_xmm_xmm_xmmm32 } (.vex p) (some m)
    (fun e => [e.reg .xmm, e.vvvv .xmm, e.rm .xmm .Float32]) s

/-- R525: `VEX.LIG.F2.0F.WIG 58 /r`. -/
def execVex_vaddsd_xmm_xmm_xmmm64 (p : VexPrefix) (m : ModRM) (s : State) : Result :=
  answer { code := .ref .VEX_Vaddsd_xmm_xmm_xmmm64 } (.vex p) (some m)
    (fun e => [e.reg .xmm, e.vvvv .xmm, e.rm .xmm .Float64]) s

/-- R526: `VEX.128.66.0F.WIG 60 /r`. -/
def execVex_vpunpcklbw_xmm_xmm_xmmm128 (p : VexPrefix) (m : ModRM) (s : State) : Result :=
  answer { code := .ref .VEX_Vpunpcklbw_xmm_xmm_xmmm128 } (.vex p) (some m)
    (fun e => [e.reg .xmm, e.vvvv .xmm, e.rm .xmm .Packed128_Int8]) s

/-- R527: `VEX.256.66.0F.WIG 60 /r`. -/
def execVex_vpunpcklbw_ymm_ymm_ymmm256 (p : VexPrefix) (m : ModRM) (s : State) : Result :=
  answer { code := .ref .VEX_Vpunpcklbw_ymm_ymm_ymmm256 } (.vex p) (some m)
    (fun e => [e.reg .ymm, e.vvvv .ymm, e.rm .ymm .Packed256_Int8]) s

/-- R528: `VEX.128.66.0F.WIG 61 /r`. -/
def execVex_vpunpcklwd_xmm_xmm_xmmm128 (p : VexPrefix) (m : ModRM) (s : State) : Result :=
  answer { code := .ref .VEX_Vpunpcklwd_xmm_xmm_xmmm128 } (.vex p) (some m)
    (fun e => [e.reg .xmm, e.vvvv .xmm, e.rm .xmm .Packed128_Int16]) s

/-- R529: `VEX.256.66.0F.WIG 61 /r`. -/
def execVex_vpunpcklwd_ymm_ymm_ymmm256 (p : VexPrefix) (m : ModRM) (s : State) : Result :=
  answer { code := .ref .VEX_Vpunpcklwd_ymm_ymm_ymmm256 } (.vex p) (some m)
    (fun e => [e.reg .ymm, e.vvvv .ymm, e.rm .ymm .Packed256_Int16]) s

/-- R530: `VEX.128.66.0F.WIG 62 /r`. -/
def execVex_vpunpckldq_xmm_xmm_xmmm128 (p : VexPrefix) (m : ModRM) (s : State) : Result :=
  answer { code := .ref .VEX_Vpunpckldq_xmm_xmm_xmmm128 } (.vex p) (some m)
    (fun e => [e.reg .xmm, e.vvvv .xmm, e.rm .xmm .Packed128_Int32]) s

/-- R531: `VEX.256.66.0F.WIG 62 /r`. -/
def execVex_vpunpckldq_ymm_ymm_ymmm256 (p : VexPrefix) (m : ModRM) (s : State) : Result :=
  answer { code := .ref .VEX_Vpunpckldq_ymm_ymm_ymmm256 } (.vex p) (some m)
    (fun e => [e.reg .ymm, e.vvvv .ymm, e.rm .ymm .Packed256_Int32]) s

/-- R532: `VEX.128.66.0F.WIG 63 /r`. -/
def execVex_vpacksswb_xmm_xmm_xmmm128 (p : VexPrefix) (m : ModRM) (s : State) : Result :=
  answer { code := .ref .VEX_Vpacksswb_xmm_xmm_xmmm128 } (.vex p) (some m)
    (fun e => [e.reg .xmm, e.vvvv .xmm, e.rm .xmm .Packed128_Int16]) s

/-- R533: `VEX.256.66.0F.WIG 63 /r`. -/
def execVex_vpacksswb_ymm_ymm_ymmm256 (p : VexPrefix) (m : ModRM) (s : State) : Result :=
  answer { code := .ref .VEX_Vpacksswb_ymm_ymm_ymmm256 } (.vex p) (some m)
    (fun e => [e.reg .ymm, e.vvvv .ymm, e.rm .ymm .Packed256_Int16]) s

/-- R534: `VEX.128.66.0F.WIG 64 /r`. -/
def execVex_vpcmpgtb_xmm_xmm_xmmm128 (p : VexPrefix) (m : ModRM) (s : State) : Result :=
  answer { code := .ref .VEX_Vpcmpgtb_xmm_xmm_xmmm128 } (.vex p) (some m)
    (fun e => [e.reg .xmm, e.vvvv .xmm, e.rm .xmm .Packed128_Int8]) s

/-- R535: `VEX.256.66.0F.WIG 64 /r`. -/
def execVex_vpcmpgtb_ymm_ymm_ymmm256 (p : VexPrefix) (m : ModRM) (s : State) : Result :=
  answer { code := .ref .VEX_Vpcmpgtb_ymm_ymm_ymmm256 } (.vex p) (some m)
    (fun e => [e.reg .ymm, e.vvvv .ymm, e.rm .ymm .Packed256_Int8]) s

/-- R536: `VEX.128.66.0F.WIG 65 /r`. -/
def execVex_vpcmpgtw_xmm_xmm_xmmm128 (p : VexPrefix) (m : ModRM) (s : State) : Result :=
  answer { code := .ref .VEX_Vpcmpgtw_xmm_xmm_xmmm128 } (.vex p) (some m)
    (fun e => [e.reg .xmm, e.vvvv .xmm, e.rm .xmm .Packed128_Int16]) s

/-- R537: `VEX.256.66.0F.WIG 65 /r`. -/
def execVex_vpcmpgtw_ymm_ymm_ymmm256 (p : VexPrefix) (m : ModRM) (s : State) : Result :=
  answer { code := .ref .VEX_Vpcmpgtw_ymm_ymm_ymmm256 } (.vex p) (some m)
    (fun e => [e.reg .ymm, e.vvvv .ymm, e.rm .ymm .Packed256_Int16]) s

/-- R538: `VEX.128.66.0F.WIG 66 /r`. -/
def execVex_vpcmpgtd_xmm_xmm_xmmm128 (p : VexPrefix) (m : ModRM) (s : State) : Result :=
  answer { code := .ref .VEX_Vpcmpgtd_xmm_xmm_xmmm128 } (.vex p) (some m)
    (fun e => [e.reg .xmm, e.vvvv .xmm, e.rm .xmm .Packed128_Int32]) s

/-- R539: `VEX.256.66.0F.WIG 66 /r`. -/
def execVex_vpcmpgtd_ymm_ymm_ymmm256 (p : VexPrefix) (m : ModRM) (s : State) : Result :=
  answer { code := .ref .VEX_Vpcmpgtd_ymm_ymm_ymmm256 } (.vex p) (some m)
    (fun e => [e.reg .ymm, e.vvvv .ymm, e.rm .ymm .Packed256_Int32]) s

/-- R540: `VEX.128.66.0F.WIG 67 /r`. -/
def execVex_vpackuswb_xmm_xmm_xmmm128 (p : VexPrefix) (m : ModRM) (s : State) : Result :=
  answer { code := .ref .VEX_Vpackuswb_xmm_xmm_xmmm128 } (.vex p) (some m)
    (fun e => [e.reg .xmm, e.vvvv .xmm, e.rm .xmm .Packed128_Int16]) s

/-- R541: `VEX.256.66.0F.WIG 67 /r`. -/
def execVex_vpackuswb_ymm_ymm_ymmm256 (p : VexPrefix) (m : ModRM) (s : State) : Result :=
  answer { code := .ref .VEX_Vpackuswb_ymm_ymm_ymmm256 } (.vex p) (some m)
    (fun e => [e.reg .ymm, e.vvvv .ymm, e.rm .ymm .Packed256_Int16]) s

end Sys2Proof.Machine
end

