-- ==== Sys2Proof/Machine/Dispatch.lean ====
section
/-! DEFINITION. What each instruction does: one arm per constructor, in the table's order. -/

namespace Sys2Proof.Machine

def exec (i : Instr) (s : State) : Host.Outcome State Fault Refusal :=
  match i with
  | .add_rm8_r8 p m => Sys2Proof.Machine.execAdd_rm8_r8 p m s
  | .add_rm16_r16 p m => Sys2Proof.Machine.execAdd_rm16_r16 p m s
  | .add_rm32_r32 p m => Sys2Proof.Machine.execAdd_rm32_r32 p m s
  | .add_rm64_r64 p m => Sys2Proof.Machine.execAdd_rm64_r64 p m s
  | .add_r8_rm8 p m => Sys2Proof.Machine.execAdd_r8_rm8 p m s
  | .add_r16_rm16 p m => Sys2Proof.Machine.execAdd_r16_rm16 p m s
  | .add_r32_rm32 p m => Sys2Proof.Machine.execAdd_r32_rm32 p m s
  | .add_r64_rm64 p m => Sys2Proof.Machine.execAdd_r64_rm64 p m s
  | .add_AL_imm8 p imm => Sys2Proof.Machine.execAdd_AL_imm8 p imm s
  | .add_AX_imm16 p imm => Sys2Proof.Machine.execAdd_AX_imm16 p imm s
  | .add_EAX_imm32 p imm => Sys2Proof.Machine.execAdd_EAX_imm32 p imm s
  | .add_RAX_imm32 p imm => Sys2Proof.Machine.execAdd_RAX_imm32 p imm s
  | .daa p => Sys2Proof.Machine.execDaa p s
  | .inc_r16 p low => Sys2Proof.Machine.execInc_r16 p low s
  | .inc_r32 p low => Sys2Proof.Machine.execInc_r32 p low s
  | .dec_r16 p low => Sys2Proof.Machine.execDec_r16 p low s
  | .dec_r32 p low => Sys2Proof.Machine.execDec_r32 p low s
  | .bound_r16_m1616 p m => Sys2Proof.Machine.execBound_r16_m1616 p m s
  | .bound_r32_m3232 p m => Sys2Proof.Machine.execBound_r32_m3232 p m s
  | .je_rel8_16 p rel => Sys2Proof.Machine.execJe_rel8_16 p rel s
  | .je_rel8_32 p rel => Sys2Proof.Machine.execJe_rel8_32 p rel s
  | .je_rel8_64 p rel => Sys2Proof.Machine.execJe_rel8_64 p rel s
  | .add_rm8_imm8 p m imm => Sys2Proof.Machine.execAdd_rm8_imm8 p m imm s
  | .cmp_rm8_imm8 p m imm => Sys2Proof.Machine.execCmp_rm8_imm8 p m imm s
  | .add_rm16_imm16 p m imm => Sys2Proof.Machine.execAdd_rm16_imm16 p m imm s
  | .add_rm32_imm32 p m imm => Sys2Proof.Machine.execAdd_rm32_imm32 p m imm s
  | .add_rm64_imm32 p m imm => Sys2Proof.Machine.execAdd_rm64_imm32 p m imm s
  | .cmp_rm16_imm16 p m imm => Sys2Proof.Machine.execCmp_rm16_imm16 p m imm s
  | .cmp_rm32_imm32 p m imm => Sys2Proof.Machine.execCmp_rm32_imm32 p m imm s
  | .cmp_rm64_imm32 p m imm => Sys2Proof.Machine.execCmp_rm64_imm32 p m imm s
  | .add_rm16_imm8 p m imm => Sys2Proof.Machine.execAdd_rm16_imm8 p m imm s
  | .add_rm32_imm8 p m imm => Sys2Proof.Machine.execAdd_rm32_imm8 p m imm s
  | .add_rm64_imm8 p m imm => Sys2Proof.Machine.execAdd_rm64_imm8 p m imm s
  | .cmp_rm16_imm8 p m imm => Sys2Proof.Machine.execCmp_rm16_imm8 p m imm s
  | .cmp_rm32_imm8 p m imm => Sys2Proof.Machine.execCmp_rm32_imm8 p m imm s
  | .cmp_rm64_imm8 p m imm => Sys2Proof.Machine.execCmp_rm64_imm8 p m imm s
  | .mov_rm8_r8 p m => Sys2Proof.Machine.execMov_rm8_r8 p m s
  | .mov_rm16_r16 p m => Sys2Proof.Machine.execMov_rm16_r16 p m s
  | .mov_rm32_r32 p m => Sys2Proof.Machine.execMov_rm32_r32 p m s
  | .mov_rm64_r64 p m => Sys2Proof.Machine.execMov_rm64_r64 p m s
  | .mov_r8_rm8 p m => Sys2Proof.Machine.execMov_r8_rm8 p m s
  | .mov_r16_rm16 p m => Sys2Proof.Machine.execMov_r16_rm16 p m s
  | .mov_r32_rm32 p m => Sys2Proof.Machine.execMov_r32_rm32 p m s
  | .mov_r64_rm64 p m => Sys2Proof.Machine.execMov_r64_rm64 p m s
  | .lea_r16_m p m => Sys2Proof.Machine.execLea_r16_m p m s
  | .lea_r32_m p m => Sys2Proof.Machine.execLea_r32_m p m s
  | .lea_r64_m p m => Sys2Proof.Machine.execLea_r64_m p m s
  | .mov_AL_moffs8 p a => Sys2Proof.Machine.execMov_AL_moffs8 p a s
  | .mov_AX_moffs16 p a => Sys2Proof.Machine.execMov_AX_moffs16 p a s
  | .mov_EAX_moffs32 p a => Sys2Proof.Machine.execMov_EAX_moffs32 p a s
  | .mov_RAX_moffs64 p a => Sys2Proof.Machine.execMov_RAX_moffs64 p a s
  | .mov_moffs8_AL p a => Sys2Proof.Machine.execMov_moffs8_AL p a s
  | .mov_moffs16_AX p a => Sys2Proof.Machine.execMov_moffs16_AX p a s
  | .mov_moffs32_EAX p a => Sys2Proof.Machine.execMov_moffs32_EAX p a s
  | .mov_moffs64_RAX p a => Sys2Proof.Machine.execMov_moffs64_RAX p a s
  | .mov_r8_imm8 p low imm => Sys2Proof.Machine.execMov_r8_imm8 p low imm s
  | .mov_r16_imm16 p low imm => Sys2Proof.Machine.execMov_r16_imm16 p low imm s
  | .mov_r32_imm32 p low imm => Sys2Proof.Machine.execMov_r32_imm32 p low imm s
  | .mov_r64_imm64 p low imm => Sys2Proof.Machine.execMov_r64_imm64 p low imm s
  | .les_r16_m1616 p m => Sys2Proof.Machine.execLes_r16_m1616 p m s
  | .les_r32_m1632 p m => Sys2Proof.Machine.execLes_r32_m1632 p m s
  | .lds_r16_m1616 p m => Sys2Proof.Machine.execLds_r16_m1616 p m s
  | .lds_r32_m1632 p m => Sys2Proof.Machine.execLds_r32_m1632 p m s
  | .int3 p => Sys2Proof.Machine.execInt3 p s
  | .call_rel16 p rel => Sys2Proof.Machine.execCall_rel16 p rel s
  | .call_rel32_32 p rel => Sys2Proof.Machine.execCall_rel32_32 p rel s
  | .call_rel32_64 p rel => Sys2Proof.Machine.execCall_rel32_64 p rel s
  | .jmp_rel16 p rel => Sys2Proof.Machine.execJmp_rel16 p rel s
  | .jmp_rel32_32 p rel => Sys2Proof.Machine.execJmp_rel32_32 p rel s
  | .jmp_rel32_64 p rel => Sys2Proof.Machine.execJmp_rel32_64 p rel s
  | .jmp_rel8_16 p rel => Sys2Proof.Machine.execJmp_rel8_16 p rel s
  | .jmp_rel8_32 p rel => Sys2Proof.Machine.execJmp_rel8_32 p rel s
  | .jmp_rel8_64 p rel => Sys2Proof.Machine.execJmp_rel8_64 p rel s
  | .hlt p => Sys2Proof.Machine.execHlt p s
  | .inc_rm8 p m => Sys2Proof.Machine.execInc_rm8 p m s
  | .dec_rm8 p m => Sys2Proof.Machine.execDec_rm8 p m s
  | .inc_rm16 p m => Sys2Proof.Machine.execInc_rm16 p m s
  | .inc_rm32 p m => Sys2Proof.Machine.execInc_rm32 p m s
  | .inc_rm64 p m => Sys2Proof.Machine.execInc_rm64 p m s
  | .dec_rm16 p m => Sys2Proof.Machine.execDec_rm16 p m s
  | .dec_rm32 p m => Sys2Proof.Machine.execDec_rm32 p m s
  | .dec_rm64 p m => Sys2Proof.Machine.execDec_rm64 p m s
  | .syscall p => Sys2Proof.Machine.execSyscall p s
  | .addps_xmm_xmmm128 p m => Sys2Proof.Machine.execAddps_xmm_xmmm128 p m s
  | .addpd_xmm_xmmm128 p m => Sys2Proof.Machine.execAddpd_xmm_xmmm128 p m s
  | .addss_xmm_xmmm32 p m => Sys2Proof.Machine.execAddss_xmm_xmmm32 p m s
  | .addsd_xmm_xmmm64 p m => Sys2Proof.Machine.execAddsd_xmm_xmmm64 p m s
  | .punpcklbw_mm_mmm32 p m => Sys2Proof.Machine.execPunpcklbw_mm_mmm32 p m s
  | .punpcklbw_xmm_xmmm128 p m => Sys2Proof.Machine.execPunpcklbw_xmm_xmmm128 p m s
  | .punpcklwd_mm_mmm32 p m => Sys2Proof.Machine.execPunpcklwd_mm_mmm32 p m s
  | .punpcklwd_xmm_xmmm128 p m => Sys2Proof.Machine.execPunpcklwd_xmm_xmmm128 p m s
  | .punpckldq_mm_mmm32 p m => Sys2Proof.Machine.execPunpckldq_mm_mmm32 p m s
  | .punpckldq_xmm_xmmm128 p m => Sys2Proof.Machine.execPunpckldq_xmm_xmmm128 p m s
  | .packsswb_mm_mmm64 p m => Sys2Proof.Machine.execPacksswb_mm_mmm64 p m s
  | .packsswb_xmm_xmmm128 p m => Sys2Proof.Machine.execPacksswb_xmm_xmmm128 p m s
  | .pcmpgtb_mm_mmm64 p m => Sys2Proof.Machine.execPcmpgtb_mm_mmm64 p m s
  | .pcmpgtb_xmm_xmmm128 p m => Sys2Proof.Machine.execPcmpgtb_xmm_xmmm128 p m s
  | .pcmpgtw_mm_mmm64 p m => Sys2Proof.Machine.execPcmpgtw_mm_mmm64 p m s
  | .pcmpgtw_xmm_xmmm128 p m => Sys2Proof.Machine.execPcmpgtw_xmm_xmmm128 p m s
  | .pcmpgtd_mm_mmm64 p m => Sys2Proof.Machine.execPcmpgtd_mm_mmm64 p m s
  | .pcmpgtd_xmm_xmmm128 p m => Sys2Proof.Machine.execPcmpgtd_xmm_xmmm128 p m s
  | .packuswb_mm_mmm64 p m => Sys2Proof.Machine.execPackuswb_mm_mmm64 p m s
  | .packuswb_xmm_xmmm128 p m => Sys2Proof.Machine.execPackuswb_xmm_xmmm128 p m s
  | .movd_mm_rm32 p m => Sys2Proof.Machine.execMovd_mm_rm32 p m s
  | .movq_mm_rm64 p m => Sys2Proof.Machine.execMovq_mm_rm64 p m s
  | .movd_xmm_rm32 p m => Sys2Proof.Machine.execMovd_xmm_rm32 p m s
  | .movq_xmm_rm64 p m => Sys2Proof.Machine.execMovq_xmm_rm64 p m s
  | .je_rel16 p rel => Sys2Proof.Machine.execJe_rel16 p rel s
  | .je_rel32_32 p rel => Sys2Proof.Machine.execJe_rel32_32 p rel s
  | .je_rel32_64 p rel => Sys2Proof.Machine.execJe_rel32_64 p rel s
  | .fxsave_m512byte p m => Sys2Proof.Machine.execFxsave_m512byte p m s
  | .fxsave64_m512byte p m => Sys2Proof.Machine.execFxsave64_m512byte p m s
  | .fxrstor_m512byte p m => Sys2Proof.Machine.execFxrstor_m512byte p m s
  | .fxrstor64_m512byte p m => Sys2Proof.Machine.execFxrstor64_m512byte p m s
  | .ldmxcsr_m32 p m => Sys2Proof.Machine.execLdmxcsr_m32 p m s
  | .stmxcsr_m32 p m => Sys2Proof.Machine.execStmxcsr_m32 p m s
  | .clflush_m8 p m => Sys2Proof.Machine.execClflush_m8 p m s
  | .lfence p m => Sys2Proof.Machine.execLfence p m s
  | .mfence p m => Sys2Proof.Machine.execMfence p m s
  | .sfence p m => Sys2Proof.Machine.execSfence p m s
  | .vex_vaddps_xmm_xmm_xmmm128 p m => Sys2Proof.Machine.execVex_vaddps_xmm_xmm_xmmm128 p m s
  | .vex_vaddps_ymm_ymm_ymmm256 p m => Sys2Proof.Machine.execVex_vaddps_ymm_ymm_ymmm256 p m s
  | .vex_vaddpd_xmm_xmm_xmmm128 p m => Sys2Proof.Machine.execVex_vaddpd_xmm_xmm_xmmm128 p m s
  | .vex_vaddpd_ymm_ymm_ymmm256 p m => Sys2Proof.Machine.execVex_vaddpd_ymm_ymm_ymmm256 p m s
  | .vex_vaddss_xmm_xmm_xmmm32 p m => Sys2Proof.Machine.execVex_vaddss_xmm_xmm_xmmm32 p m s
  | .vex_vaddsd_xmm_xmm_xmmm64 p m => Sys2Proof.Machine.execVex_vaddsd_xmm_xmm_xmmm64 p m s
  | .vex_vpunpcklbw_xmm_xmm_xmmm128 p m => Sys2Proof.Machine.execVex_vpunpcklbw_xmm_xmm_xmmm128 p m s
  | .vex_vpunpcklbw_ymm_ymm_ymmm256 p m => Sys2Proof.Machine.execVex_vpunpcklbw_ymm_ymm_ymmm256 p m s
  | .vex_vpunpcklwd_xmm_xmm_xmmm128 p m => Sys2Proof.Machine.execVex_vpunpcklwd_xmm_xmm_xmmm128 p m s
  | .vex_vpunpcklwd_ymm_ymm_ymmm256 p m => Sys2Proof.Machine.execVex_vpunpcklwd_ymm_ymm_ymmm256 p m s
  | .vex_vpunpckldq_xmm_xmm_xmmm128 p m => Sys2Proof.Machine.execVex_vpunpckldq_xmm_xmm_xmmm128 p m s
  | .vex_vpunpckldq_ymm_ymm_ymmm256 p m => Sys2Proof.Machine.execVex_vpunpckldq_ymm_ymm_ymmm256 p m s
  | .vex_vpacksswb_xmm_xmm_xmmm128 p m => Sys2Proof.Machine.execVex_vpacksswb_xmm_xmm_xmmm128 p m s
  | .vex_vpacksswb_ymm_ymm_ymmm256 p m => Sys2Proof.Machine.execVex_vpacksswb_ymm_ymm_ymmm256 p m s
  | .vex_vpcmpgtb_xmm_xmm_xmmm128 p m => Sys2Proof.Machine.execVex_vpcmpgtb_xmm_xmm_xmmm128 p m s
  | .vex_vpcmpgtb_ymm_ymm_ymmm256 p m => Sys2Proof.Machine.execVex_vpcmpgtb_ymm_ymm_ymmm256 p m s
  | .vex_vpcmpgtw_xmm_xmm_xmmm128 p m => Sys2Proof.Machine.execVex_vpcmpgtw_xmm_xmm_xmmm128 p m s
  | .vex_vpcmpgtw_ymm_ymm_ymmm256 p m => Sys2Proof.Machine.execVex_vpcmpgtw_ymm_ymm_ymmm256 p m s
  | .vex_vpcmpgtd_xmm_xmm_xmmm128 p m => Sys2Proof.Machine.execVex_vpcmpgtd_xmm_xmm_xmmm128 p m s
  | .vex_vpcmpgtd_ymm_ymm_ymmm256 p m => Sys2Proof.Machine.execVex_vpcmpgtd_ymm_ymm_ymmm256 p m s
  | .vex_vpackuswb_xmm_xmm_xmmm128 p m => Sys2Proof.Machine.execVex_vpackuswb_xmm_xmm_xmmm128 p m s
  | .vex_vpackuswb_ymm_ymm_ymmm256 p m => Sys2Proof.Machine.execVex_vpackuswb_ymm_ymm_ymmm256 p m s
  | .evex_vaddps_xmm_k1z_xmm_xmmm128b32 p m => Sys2Proof.Machine.execEvex_vaddps_xmm_k1z_xmm_xmmm128b32 p m s
  | .evex_vaddps_ymm_k1z_ymm_ymmm256b32 p m => Sys2Proof.Machine.execEvex_vaddps_ymm_k1z_ymm_ymmm256b32 p m s
  | .evex_vaddps_zmm_k1z_zmm_zmmm512b32_er p m => Sys2Proof.Machine.execEvex_vaddps_zmm_k1z_zmm_zmmm512b32_er p m s
  | .evex_vaddpd_xmm_k1z_xmm_xmmm128b64 p m => Sys2Proof.Machine.execEvex_vaddpd_xmm_k1z_xmm_xmmm128b64 p m s
  | .evex_vaddpd_ymm_k1z_ymm_ymmm256b64 p m => Sys2Proof.Machine.execEvex_vaddpd_ymm_k1z_ymm_ymmm256b64 p m s
  | .evex_vaddpd_zmm_k1z_zmm_zmmm512b64_er p m => Sys2Proof.Machine.execEvex_vaddpd_zmm_k1z_zmm_zmmm512b64_er p m s
  | .evex_vaddss_xmm_k1z_xmm_xmmm32_er p m => Sys2Proof.Machine.execEvex_vaddss_xmm_k1z_xmm_xmmm32_er p m s
  | .evex_vaddsd_xmm_k1z_xmm_xmmm64_er p m => Sys2Proof.Machine.execEvex_vaddsd_xmm_k1z_xmm_xmmm64_er p m s
  | .evex_vmaxps_xmm_k1z_xmm_xmmm128b32 p m => Sys2Proof.Machine.execEvex_vmaxps_xmm_k1z_xmm_xmmm128b32 p m s
  | .evex_vmaxps_ymm_k1z_ymm_ymmm256b32 p m => Sys2Proof.Machine.execEvex_vmaxps_ymm_k1z_ymm_ymmm256b32 p m s
  | .evex_vmaxps_zmm_k1z_zmm_zmmm512b32_sae p m => Sys2Proof.Machine.execEvex_vmaxps_zmm_k1z_zmm_zmmm512b32_sae p m s
  | .evex_vpunpcklbw_xmm_k1z_xmm_xmmm128 p m => Sys2Proof.Machine.execEvex_vpunpcklbw_xmm_k1z_xmm_xmmm128 p m s
  | .evex_vpunpcklbw_ymm_k1z_ymm_ymmm256 p m => Sys2Proof.Machine.execEvex_vpunpcklbw_ymm_k1z_ymm_ymmm256 p m s
  | .evex_vpunpcklbw_zmm_k1z_zmm_zmmm512 p m => Sys2Proof.Machine.execEvex_vpunpcklbw_zmm_k1z_zmm_zmmm512 p m s
  | .evex_vpunpcklwd_xmm_k1z_xmm_xmmm128 p m => Sys2Proof.Machine.execEvex_vpunpcklwd_xmm_k1z_xmm_xmmm128 p m s
  | .evex_vpunpcklwd_ymm_k1z_ymm_ymmm256 p m => Sys2Proof.Machine.execEvex_vpunpcklwd_ymm_k1z_ymm_ymmm256 p m s
  | .evex_vpunpcklwd_zmm_k1z_zmm_zmmm512 p m => Sys2Proof.Machine.execEvex_vpunpcklwd_zmm_k1z_zmm_zmmm512 p m s
  | .evex_vpunpckldq_xmm_k1z_xmm_xmmm128b32 p m => Sys2Proof.Machine.execEvex_vpunpckldq_xmm_k1z_xmm_xmmm128b32 p m s
  | .evex_vpunpckldq_ymm_k1z_ymm_ymmm256b32 p m => Sys2Proof.Machine.execEvex_vpunpckldq_ymm_k1z_ymm_ymmm256b32 p m s
  | .evex_vpunpckldq_zmm_k1z_zmm_zmmm512b32 p m => Sys2Proof.Machine.execEvex_vpunpckldq_zmm_k1z_zmm_zmmm512b32 p m s
  | .evex_vpacksswb_xmm_k1z_xmm_xmmm128 p m => Sys2Proof.Machine.execEvex_vpacksswb_xmm_k1z_xmm_xmmm128 p m s
  | .evex_vpacksswb_ymm_k1z_ymm_ymmm256 p m => Sys2Proof.Machine.execEvex_vpacksswb_ymm_k1z_ymm_ymmm256 p m s
  | .evex_vpacksswb_zmm_k1z_zmm_zmmm512 p m => Sys2Proof.Machine.execEvex_vpacksswb_zmm_k1z_zmm_zmmm512 p m s
  | .evex_vpcmpgtb_k_k1_xmm_xmmm128 p m => Sys2Proof.Machine.execEvex_vpcmpgtb_k_k1_xmm_xmmm128 p m s
  | .evex_vpcmpgtb_k_k1_ymm_ymmm256 p m => Sys2Proof.Machine.execEvex_vpcmpgtb_k_k1_ymm_ymmm256 p m s
  | .evex_vpcmpgtb_k_k1_zmm_zmmm512 p m => Sys2Proof.Machine.execEvex_vpcmpgtb_k_k1_zmm_zmmm512 p m s
  | .evex_vpcmpgtw_k_k1_xmm_xmmm128 p m => Sys2Proof.Machine.execEvex_vpcmpgtw_k_k1_xmm_xmmm128 p m s
  | .evex_vpcmpgtw_k_k1_ymm_ymmm256 p m => Sys2Proof.Machine.execEvex_vpcmpgtw_k_k1_ymm_ymmm256 p m s
  | .evex_vpcmpgtw_k_k1_zmm_zmmm512 p m => Sys2Proof.Machine.execEvex_vpcmpgtw_k_k1_zmm_zmmm512 p m s
  | .evex_vpcmpgtd_k_k1_xmm_xmmm128b32 p m => Sys2Proof.Machine.execEvex_vpcmpgtd_k_k1_xmm_xmmm128b32 p m s
  | .evex_vpcmpgtd_k_k1_ymm_ymmm256b32 p m => Sys2Proof.Machine.execEvex_vpcmpgtd_k_k1_ymm_ymmm256b32 p m s
  | .evex_vpcmpgtd_k_k1_zmm_zmmm512b32 p m => Sys2Proof.Machine.execEvex_vpcmpgtd_k_k1_zmm_zmmm512b32 p m s
  | .evex_vpackuswb_xmm_k1z_xmm_xmmm128 p m => Sys2Proof.Machine.execEvex_vpackuswb_xmm_k1z_xmm_xmmm128 p m s
  | .evex_vpackuswb_ymm_k1z_ymm_ymmm256 p m => Sys2Proof.Machine.execEvex_vpackuswb_ymm_k1z_ymm_ymmm256 p m s
  | .evex_vpackuswb_zmm_k1z_zmm_zmmm512 p m => Sys2Proof.Machine.execEvex_vpackuswb_zmm_k1z_zmm_zmmm512 p m s
  | .evex_vmovdqa32_xmm_k1z_xmmm128 p m => Sys2Proof.Machine.execEvex_vmovdqa32_xmm_k1z_xmmm128 p m s
  | .evex_vmovdqa32_ymm_k1z_ymmm256 p m => Sys2Proof.Machine.execEvex_vmovdqa32_ymm_k1z_ymmm256 p m s
  | .evex_vmovdqa32_zmm_k1z_zmmm512 p m => Sys2Proof.Machine.execEvex_vmovdqa32_zmm_k1z_zmmm512 p m s
  | .evex_vmovdqa64_xmm_k1z_xmmm128 p m => Sys2Proof.Machine.execEvex_vmovdqa64_xmm_k1z_xmmm128 p m s
  | .evex_vmovdqa64_ymm_k1z_ymmm256 p m => Sys2Proof.Machine.execEvex_vmovdqa64_ymm_k1z_ymmm256 p m s
  | .evex_vmovdqa64_zmm_k1z_zmmm512 p m => Sys2Proof.Machine.execEvex_vmovdqa64_zmm_k1z_zmmm512 p m s

end Sys2Proof.Machine
end

