-- ==== Sys2Proof/Machine/Step.lean ====
section
/-! DEFINITION. One step of the block: one whole decode transaction when a request waits for its response, nothing when the
block is idle (spec R13, R21, R381). -/

namespace Sys2Proof.Machine

/-- What the decoder reads for a request (R20). -/
def State.source (s : State) (q : Request) : Source :=
  { buf := s.buf, start := q.start, bitness := q.bitness, params := s.params }

/-- What was decoded is assembled: an instruction by its meaning, a row that only another content of `TEMPLATE_ROM` has by the
template-driven assembler (R260). -/
def runDecoded (d : Decoded) (s : State) : Result :=
  match d with
  | .instr i => exec i s
  | .row r f => assembleRow r f s

/-- One step (R1, R21): decode, then the meaning of the decoded row; a failure of the decode takes the failure exit.
Without a request, or when it has its response, the block is idle (R350, R381). -/
def step (s : State) : Host.Outcome State Fault Refusal :=
  match s.request with
  | none => .next s
  | some q => match s.response with
    | some _ => .next s
    | none => match Sys2Proof.decode (s.source q) with
      | .error k => .next ((s.begin q).fail k)
      | .ok (d, t) => runDecoded d ((s.begin q).withTxn t)

/-- `s` with a request for the instruction of a word of opcode_table.json: the buffer, the request and no response, so that
the next step runs it (log entries 6 and 7). -/
def State.withFetchWord (s : State) (nbits w : Nat) : State :=
  s.submit (Memory.ofBytes (tableBytes nbits w)) { start := 0, ip := 0, bitness := tableBitness }

end Sys2Proof.Machine
end

