-- ==== Sys2Proof/Safety.lean ====
section
/-! DEFINITION. What counts as a good state and a good response (spec R36, R315), and the terms the statements use: a request
waiting, a transaction in progress, a byte string in the buffer, the response a row's rule describes, the caller's run. -/

namespace Sys2Proof.Machine

/-- A request waits for its response. -/
def Pending (s : State) (q : Request) : Prop := s.request = some q ∧ s.response = none

/-- A transaction of request `q` is in progress. -/
def InTxn (s : State) (q : Request) (t : Txn) : Prop := s.request = some q ∧ s.txn = some t

/-- `s` with the transaction over and this response (R21, R278, R342): request, buffer and parameters as before. -/
def done (s : State) (r : Response) : State :=
  { params := s.params, buf := s.buf, request := s.request, txn := none, response := some r }

/-- The byte string stands in the buffer from index `a`. -/
def HoldsBytes (b : Memory) (a : Nat) (bs : List Byte) : Prop := ∀ k, k < bs.length → b.read (a + k) = bs[k]?

/-- The operands of a record that are of kind Memory. -/
def memoryCount (out : Instruction) : Nat := (out.operands.filter Operand.isMemory).length

/-- The invariants of a record that row `r` yields: those that R36 states and R43, R276 add. -/
def Instruction.Inv (r : Row) (out : Instruction) : Prop :=
  out.code = r.code ∧ out.operands.length = maxOperands
    ∧ out.opCount = r.ops.length
    ∧ (∀ k, k < maxOperands → (out.operands[k]? = some .none ↔ out.opCount ≤ k))
    ∧ memoryCount out ≤ 1
    ∧ 1 ≤ out.byteLength ∧ out.byteLength ≤ maxLen
    ∧ (out.vec.isSome = true ↔ r.space ≠ .legacy)
    ∧ ∀ v, out.vec = some v →
        v.opMask ≠ some 0 ∧ (v.opMask ≠ none → r.k = true)
          ∧ (v.zeroingMasking = true → r.zeroing = true ∧ v.opMask ≠ none)
          ∧ (v.roundingControl ≠ none ∨ v.suppressAllExceptions = true →
              r.ersae ≠ .none ∧ memoryCount out = 0)

/-- The invariant of the state between steps: the table admissible (R203), the buffer in canonical form, no transaction left
over (R51, R278), and a response only to a request, whose record is good for a row of the table and lies inside the
buffer (R36). -/
def State.Inv (s : State) : Prop :=
  admissible s.params.table = true ∧ s.buf.wf = true ∧ s.txn = none
    ∧ ∀ r, s.response = some r → ∃ q, s.request = some q
        ∧ ∀ out, r = .ok out → (∃ y ∈ s.params.table, Instruction.Inv y out) ∧ q.start + out.byteLength ≤ s.buf.len

/-- Operand 0 of a row's encoding is in memory, by the row's first operand shape (R262, R263, R269). -/
def rowDestInMemory (r : Row) (f : Parts) : Bool :=
  match r.ops.head? with
  | some (.rm _) => decide (f.m.mod ≠ 3)
  | some .mem => true
  | some .moffs => true
  | _ => false

/-- Operand 0 of an instruction is in memory. -/
def destInMemory (i : Instr) : Bool := rowDestInMemory i.row i.fields.toParts

/-- No LOCK, or LOCK on a lockable row whose destination is in memory (R274). -/
def LockLegal (i : Instr) : Prop := i.fields.pfx.lock = true → i.row.lockable = true ∧ destInMemory i = true

/-- A register operand with ModRM.reg (R221, R261). -/
def regOpd (c : RegClass) (p : Prefix) (m : ModRM) : Operand :=
  .register (regOf c (regNumber c p m.reg) p.rexPresent)

/-- A register or memory operand with ModRM.rm (R222, R262), `n` its `disp8*N` factor (R236). -/
def rmOpd (b : Bitness) (c : RegClass) (p : Prefix) (n : Nat) (m : ModRM) (size : MemorySize) : Operand :=
  if m.mod = 3 then .register (regOf c (rmNumber c p m.rm) p.rexPresent) else .memory (resolveMem b p n m) size

/-- A memory operand of a memory-only row (R263). -/
def memOpd (b : Bitness) (p : Prefix) (m : ModRM) (size : MemorySize) : Operand := .memory (resolveMem b p 1 m) size

/-- A register operand with `vvvv` (R264); for general registers, log entry 17. -/
def vvvvOpd (c : RegClass) (p : Prefix) : Operand := .register (regOf c (BitVec.ofBool p.vp ++ p.vvvv) false)

/-- A register operand with the opcode byte's low bits (R265). -/
def opregOpd (c : RegClass) (p : Prefix) (low : BitVec 3) : Operand :=
  .register (regOf c (0#1 ++ BitVec.ofBool p.b ++ low) p.rexPresent)

/-- A branch operand (R268). -/
def relOpd (ip : Ip) (len : Nat) (rel : Int) (width encSize : Nat) : Operand :=
  .nearBranch rel width encSize (((ip.toNat : Int) + len + rel) % (2 ^ width : Nat)).toNat

/-- The record of a Legacy row (R33, R273): `any` says that the row's `mp` key is `ANY`. -/
def legacyRecord (c : Code) (p : LegacyPrefix) (any : Bool) (len : Nat) (ops : List Operand) : Instruction :=
  { code := .ref c, byteLength := len, operands := operandSlots ops, opCount := ops.length,
    hasRep := any && decide (p.rep = some .F3), hasRepne := any && decide (p.rep = some .F2), hasLock := p.lock,
    segmentOverride := p.seg, vec := none }

/-- The record of a VEX row (R273, R298). -/
def vexRecord (c : Code) (p : VexPrefix) (len : Nat) (ops : List Operand) : Instruction :=
  { code := .ref c, byteLength := len, operands := operandSlots ops, opCount := ops.length,
    hasRep := false, hasRepne := false, hasLock := p.lock, segmentOverride := p.seg,
    vec := some { opMask := none, zeroingMasking := false, roundingControl := none, suppressAllExceptions := false } }

/-- The record of an EVEX row (R273, R291 to R294). -/
def evexRecord (c : Code) (p : EvexPrefix) (len : Nat) (ops : List Operand) (rounding : Option Rounding) (sae : Bool) :
    Instruction :=
  { code := .ref c, byteLength := len, operands := operandSlots ops, opCount := ops.length,
    hasRep := false, hasRepne := false, hasLock := p.lock, segmentOverride := p.seg,
    vec := some { opMask := if p.aaa = 0 then none else some p.aaa, zeroingMasking := p.z, roundingControl := rounding,
                  suppressAllExceptions := sae } }

/-- The rounding control of an EVEX row (R294, R295), `ersae` its permission. -/
def evexRounding (ersae : ErSae) (p : EvexPrefix) (m : ModRM) : Option Rounding :=
  if p.bcst = true ∧ m.mod = 3 ∧ ersae = .er then
    some (([.RoundToNearest, .RoundDown, .RoundUp, .RoundTowardZero][p.ll.toNat]?).getD .RoundToNearest)
  else none

/-- `suppress_all_exceptions` of an EVEX row (R294). -/
def evexSae (params : Params) (ersae : ErSae) (p : EvexPrefix) (m : ModRM) : Bool :=
  decide (p.bcst = true ∧ m.mod = 3 ∧ (params.erSetsSae = true ∨ ersae = .sae))

/-- `memory_size` under a possible broadcast (R270). -/
def bcstSize (p : EvexPrefix) (m : ModRM) (size sizeB : MemorySize) : MemorySize :=
  if p.bcst = true ∧ m.mod ≠ 3 then sizeB else size

/-- The `disp8*N` factor under a possible broadcast (R236). -/
def bcstFactor (p : EvexPrefix) (m : ModRM) (n nB : Nat) : Nat := if p.bcst = true ∧ m.mod ≠ 3 then nB else n

/-- The registers an operand names. -/
def Operand.registers : Operand → List Register
  | .none => []
  | .register r => [r]
  | .memory d _ => d.base.toList ++ d.index.toList
  | .immediate _ _ _ => []
  | .nearBranch _ _ _ _ => []

/-- A register that only extension bits reach (R37): number 8 and up, and the byte registers that need REX. -/
def Register.extended : Register → Bool
  | .r8 r => !([.AL, .CL, .DL, .BL, .AH, .CH, .DH, .BH].contains r)
  | .r16 n => decide (8 ≤ n.toNat)
  | .r32 n => decide (8 ≤ n.toNat)
  | .r64 n => decide (8 ≤ n.toNat)
  | .seg _ => false
  | .mm _ => false
  | .xmm n => decide (8 ≤ n.toNat)
  | .ymm n => decide (8 ≤ n.toNat)
  | .zmm n => decide (8 ≤ n.toNat)
  | .k _ => false
  | .EIP => false
  | .RIP => false

/-- An operand with a branch target set to 0: what must not depend on `IP` (R378). -/
def Operand.eraseTarget : Operand → Operand
  | .nearBranch rel w n _ => .nearBranch rel w n 0
  | .none => .none
  | .register r => .register r
  | .memory d z => .memory d z
  | .immediate v w n => .immediate v w n

/-- A response with its branch targets set to 0. -/
def Response.eraseTarget : Response → Response
  | .ok out => .ok { out with operands := out.operands.map Operand.eraseTarget }
  | .fail k => .fail k

/-- The response of one step, if it answers a state that holds one. -/
def responseOf (r : Result) : Option Response :=
  match r with
  | .next s => s.response
  | .fault _ => none
  | .refused _ => none

/-- The caller's loop (R376): step, take the response, ask for the next instruction in the mode it wants next; `bs` are the
modes of the requests after the one that waits. It stops at a failure (R336). -/
def callerRun : List Bitness → State → List Response
  | [], s => (responseOf (step s)).toList
  | b :: bs, s => match step s with
    | .next s' => match s'.response with
      | some (.ok out) => .ok out :: callerRun bs (s'.callerNext b)
      | some (.fail f) => [.fail f]
      | none => []
    | .fault _ => []
    | .refused _ => []

/-- The code of a response. -/
def Response.code? : Response → Option RowCode
  | .ok out => some out.code
  | .fail _ => none

end Sys2Proof.Machine
end

