-- ==== Sys2Proof/Certificates/Slice0/Obligations.lean ====
section
/-! DEFINITION. The statements for the provers: what the rules of the spec say of the decoder, its table, its meanings and
its steps. They hold for every choice of the parameters; a statement that rests on a choice of the model names the log entry,
and one that rests on a decision of the spec itself names the rule and the decision. -/

open Sys2Proof Sys2Proof.Machine

/-- Peek and Read test the length limit, then the end of the buffer, and only Read moves POS (R150, R151). -/
def Obligations.PeekAndReadWithinLimits : Prop :=
  ∀ (q : Source) (t : Txn),
    (∀ k, (q.start + 15 ≤ t.pos + k → peek q t k = .error .InvalidOpcode) ∧
      (t.pos + k < q.start + 15 → q.buf.len ≤ t.pos + k → peek q t k = .error .EndOfInput) ∧
      (t.pos + k < q.start + 15 → t.pos + k < q.buf.len →
        ∃ v, q.buf.read (t.pos + k) = some v ∧ peek q t k = .ok v)) ∧
    (∀ f, peek q t 0 = .error f → readByte q t = .error f) ∧
    (∀ v, peek q t 0 = .ok v → readByte q t = .ok (v, { t with pos := t.pos + 1 }))

/-- n successive reads give the little-endian value of the n bytes, or the failure of the first read that fails (R154). -/
def Obligations.ReadLeIsLittleEndian : Prop :=
  ∀ (q : Source) (t : Txn) (n : Nat),
    (∀ bs t1, readBytes q n t = .ok (bs, t1) →
      t1.pos = t.pos + n ∧ (∀ i, i < n → (q.buf.read (t.pos + i)).isSome = true) ∧
      leNat bs = ((List.range n).map fun i => ((q.buf.read (t.pos + i)).getD 0).toNat * 256 ^ i).sum) ∧
    ((∀ j, j < n → ∃ v, peek q t j = .ok v) → ∃ bs t1, readBytes q n t = .ok (bs, t1)) ∧
    (∀ i f, i < n → (∀ j, j < i → ∃ v, peek q t j = .ok v) → peek q t i = .error f → readBytes q n t = .error f)

/-- The prefix scan keeps the last occurrence of each class and counts the bytes (R161, 30_encoding.md section 2, 41_prefix_scanner.md section 1). The spec marks R94, R162 (D8), R163 (D40) as its own reading. -/
def Obligations.ScanKeepsLastOfEachClass : Prop :=
  ∀ (q : Source) (t : Txn) (vs : List Byte) (v : Byte),
    let legacy : List Byte := [0x66, 0x67, 0x26, 0x2E, 0x36, 0x3E, 0x64, 0x65, 0xF0, 0xF2, 0xF3]
    let segs : List (Byte × SegReg) := [(0x26, .ES), (0x2E, .CS), (0x36, .SS), (0x3E, .DS), (0x64, .FS), (0x65, .GS)]
    let reps : List (Byte × Rep) := [(0xF3, .F3), (0xF2, .F2)]
    let scanned := fun u : Byte => u ∈ legacy ∨ (q.bitness = .b64 ∧ u.toNat / 16 = 4)
    t.pos = q.start → vs.length < 15 → HoldsBytes q.buf t.pos (vs ++ [v]) → (∀ u ∈ vs, scanned u) → ¬scanned v →
    ∃ t1, scanPrefixes q 16 t = .ok t1 ∧ t1.pos = t.pos + vs.length ∧
      t1.ps.prefixCount = t.ps.prefixCount + vs.length ∧
      t1.ps.seg = (vs.reverse.findSome? fun u => segs.lookup u).or t.ps.seg ∧
      t1.ps.rep = (vs.reverse.findSome? fun u => reps.lookup u).or t.ps.rep ∧
      t1.ps.has66 = (t.ps.has66 || vs.contains 0x66) ∧
      t1.ps.has67 = (t.ps.has67 || vs.contains 0x67) ∧
      t1.ps.lock = (t.ps.lock || vs.contains 0xF0)

/-- A REX byte takes effect only in 64-bit mode and only as the last byte the scan consumes (41_prefix_scanner.md section 1). The spec marks R162 (D8) as its own reading. -/
def Obligations.RexCountsOnlyAsLastScannedByte : Prop :=
  (∀ (b : Bitness) (v : Byte) (ps : PrefixState), b ≠ .b64 → v &&& 0xF0 = 0x40 → scanByte b v ps = none) ∧
  ∀ (q : Source) (t : Txn) (vs : List Byte) (u v : Byte),
    let legacy : List Byte := [0x66, 0x67, 0x26, 0x2E, 0x36, 0x3E, 0x64, 0x65, 0xF0, 0xF2, 0xF3]
    let scanned := fun x : Byte => x ∈ legacy ∨ (q.bitness = .b64 ∧ x.toNat / 16 = 4)
    t.pos = q.start → vs.length < 14 → HoldsBytes q.buf t.pos (vs ++ [u, v]) → (∀ x ∈ vs ++ [u], scanned x) → ¬scanned v →
    ∃ t1, scanPrefixes q 16 t = .ok t1 ∧ t1.pos = t.pos + vs.length + 1 ∧
      t1.ps.rexPresent = decide (u &&& 0xF0 = 0x40) ∧
      t1.ps.w = (t1.ps.rexPresent && u.getLsbD 3) ∧ t1.ps.r = (t1.ps.rexPresent && u.getLsbD 2) ∧
      t1.ps.x = (t1.ps.rexPresent && u.getLsbD 1) ∧ t1.ps.b = (t1.ps.rexPresent && u.getLsbD 0)

/-- C4h, C5h and 62h are escapes in 64-bit mode, and elsewhere only when the next byte has its two top bits set (R165). -/
def Obligations.EscapeTestByModeAndNextByte : Prop :=
  (∀ (q : Source) (t : Txn), (∀ f, peek q t 0 = .error f → escapeTest q t = .error f) ∧
    ∀ v, peek q t 0 = .ok v →
    ((v ≠ 0xC4 ∧ v ≠ 0xC5 ∧ v ≠ 0x62) → escapeTest q t = .ok none) ∧
    ((v = 0xC4 ∨ v = 0xC5 ∨ v = 0x62) →
      ∃ e, e = (if v = 0xC5 then Escape.vex2 else if v = 0xC4 then .vex3 else .evex) ∧
        (q.bitness = .b64 → escapeTest q t = .ok (some e)) ∧
        (q.bitness ≠ .b64 → ∀ v1, peek q t 1 = .ok v1 →
          escapeTest q t = .ok (if v1 &&& 0xC0 = 0xC0 then some e else none)) ∧
        (q.bitness ≠ .b64 → ∀ f, peek q t 1 = .error f → escapeTest q t = .error f))) ∧
  ∀ (q : Source) (t t1 : Txn), scanPrefixes q 16 t = .ok t1 → escapeTest q t1 = .ok none →
    ∃ t2, prefixStage q t = .ok t2 ∧ t2.pos = t1.pos ∧ t2.ps.space = t1.ps.space

/-- The fields of a VEX or EVEX payload, its reserved bits, and the failure of its reads (R166, R167, R168, 41_prefix_scanner.md section 2, 30_encoding.md section 6). The spec marks R169 (D35), R118 (D15, D29, D30) as its own reading. -/
def Obligations.VexAndEvexPayloadFields : Prop :=
  (∀ (q : Source) (t : Txn) (form : Escape) (n i : Nat) (f : FailureKind),
    (form, n) ∈ [(Escape.vex2, 2), (.vex3, 3), (.evex, 4)] → i < n → (∀ j, j < i → ∃ v, peek q t j = .ok v) →
    peek q t i = .error f → readEscape q form t = .error f) ∧
  ∀ (q : Source) (t : Txn) (e p0 p1 p2 : Byte) (v : BitVec 4),
    (v.toNat = 15 - p0.toNat / 8 % 16 → t.pos + 2 ≤ q.start + 15 → HoldsBytes q.buf t.pos [e, p0] →
      readEscape q .vex2 t = .ok { t with
        pos := t.pos + 2
        ps := { t.ps with space := .vex, map := .m0F, r := !p0.getLsbD 7, x := false, b := false, w := false, vvvv := v,
                          ll := BitVec.ofNat 2 (p0.toNat / 4 % 2), pp := BitVec.ofNat 2 (p0.toNat % 4) } }) ∧
    (t.pos + 3 ≤ q.start + 15 → HoldsBytes q.buf t.pos [e, p0, p1] →
      ((p0.toNat % 32 = 0 ∨ 3 < p0.toNat % 32) → readEscape q .vex3 t = .error .InvalidOpcode) ∧
      (∀ map, (p0.toNat % 32, map) ∈ [(1, OpMap.m0F), (2, .m0F38), (3, .m0F3A)] → v.toNat = 15 - p1.toNat / 8 % 16 →
        readEscape q .vex3 t = .ok { t with
          pos := t.pos + 3
          ps := { t.ps with space := .vex, map := map, r := !p0.getLsbD 7, x := !p0.getLsbD 6, b := !p0.getLsbD 5,
                            w := p1.getLsbD 7, vvvv := v, ll := BitVec.ofNat 2 (p1.toNat / 4 % 2),
                            pp := BitVec.ofNat 2 (p1.toNat % 4) } })) ∧
    (t.pos + 4 ≤ q.start + 15 → HoldsBytes q.buf t.pos [e, p0, p1, p2] →
      ((p0.toNat / 4 % 4 ≠ 0 ∨ p0.toNat % 4 = 0 ∨ p1.getLsbD 2 = false) → readEscape q .evex t = .error .InvalidOpcode) ∧
      (∀ map, (p0.toNat % 16, map) ∈ [(1, OpMap.m0F), (2, .m0F38), (3, .m0F3A)] → p1.getLsbD 2 = true →
        v.toNat = 15 - p1.toNat / 8 % 16 →
        readEscape q .evex t = .ok { t with
          pos := t.pos + 4
          ps := { t.ps with space := .evex, map := map, r := !p0.getLsbD 7, x := !p0.getLsbD 6, b := !p0.getLsbD 5,
                            rp := !p0.getLsbD 4, w := p1.getLsbD 7, vvvv := v, pp := BitVec.ofNat 2 (p1.toNat % 4),
                            z := p2.getLsbD 7, ll := BitVec.ofNat 2 (p2.toNat / 32 % 4), bcst := p2.getLsbD 4,
                            vp := !p2.getLsbD 3, aaa := BitVec.ofNat 3 (p2.toNat % 8) } }))

/-- What 66h, F2h, F3h, REX before an escape, and extension bits outside 64-bit mode, do, and the order of the tests (41_prefix_scanner.md section 2, 41_prefix_scanner.md section 3, R173, 60_exceptions.md section 3). The spec marks R169 (D35), R170 (D13), R171 (D14), R172 (D9), R339 (D35) as its own reading. -/
def Obligations.PrefixesAndBitsThatAnEscapeForbids : Prop :=
  (∀ (q : Source) (ps0 ps : PrefixState),
    ((ps0.has66 = true ∨ ps0.rep ≠ none ∨ ps0.rexPresent = true) → q.params.legacyBeforeEscape = .fail →
      legacyBeforeEscape q ps0 ps = .error .InvalidOpcode) ∧
    ((ps0.has66 = false ∧ ps0.rep = none ∧ ps0.rexPresent = false) ∨ q.params.legacyBeforeEscape = .ppWins →
      legacyBeforeEscape q ps0 ps = .ok { ps with has66 := false, rep := none, rexPresent := false })) ∧
  (∀ (q : Source) (ps : PrefixState),
    (q.bitness ≠ .b64 → (ps.b = true ∨ ps.rp = true ∨ ps.vp = true ∨ 8 ≤ ps.vvvv.toNat) →
      (q.params.extBitsNon64 = .fail → extensionBits q ps = .error .InvalidModeForInstruction) ∧
      (q.params.extBitsNon64 = .ignore → ∃ v : BitVec 4, v.toNat = ps.vvvv.toNat % 8 ∧
        extensionBits q ps = .ok { ps with b := false, rp := false, vp := false, vvvv := v })) ∧
    (q.bitness = .b64 ∨ (ps.b = false ∧ ps.rp = false ∧ ps.vp = false ∧ ps.vvvv.toNat < 8) →
      extensionBits q ps = .ok ps)) ∧
  (∀ (q : Source) (e : Escape) (t : Txn),
    (∀ k, readEscape q e t = .error k → escapeStage q e t = .error k) ∧
    ∀ t1, readEscape q e t = .ok t1 →
      (∀ k, legacyBeforeEscape q t.ps t1.ps = .error k → escapeStage q e t = .error k) ∧
      ∀ ps2, legacyBeforeEscape q t.ps t1.ps = .ok ps2 →
        (∀ k, extensionBits q ps2 = .error k → escapeStage q e t = .error k) ∧
        ∀ ps3 mp, extensionBits q ps2 = .ok ps3 →
          (ps3.pp.toNat, mp) ∈ [(0, MandPfx.NP), (1, .p66), (2, .pF3), (3, .pF2)] →
          escapeStage q e t = .ok { t1 with ps := { ps3 with mp := mp } }) ∧
  ∀ (q : Source) (t : Txn),
    (∀ k, scanPrefixes q 16 t = .error k → prefixStage q t = .error k) ∧
    ∀ t1, scanPrefixes q 16 t = .ok t1 →
      (∀ k, escapeTest q t1 = .error k → prefixStage q t = .error k) ∧
      (∀ e, escapeTest q t1 = .ok (some e) → prefixStage q t = escapeStage q e t1) ∧
      (escapeTest q t1 = .ok none → prefixStage q t = .ok { t1 with ps := { t1.ps with
        mp := match t1.ps.rep with
          | some .F3 => .pF3
          | some .F2 => .pF2
          | none => if t1.ps.has66 = true then .p66 else .NP } })

/-- Effective operand size, address size and mandatory prefix (46_bitness_policy.md, 41_prefix_scanner.md section 3, R173). The spec marks R311 (D18), R312 (D19), R172 (D9) as its own reading. -/
def Obligations.SizesAndMandatoryPrefixByMode : Prop :=
  (∀ w, opSize .b16 w false = .o16 ∧ opSize .b16 w true = .o32 ∧ opSize .b32 w false = .o32 ∧ opSize .b32 w true = .o16) ∧
  opSize .b64 false false = .o32 ∧ opSize .b64 false true = .o16 ∧ (∀ h, opSize .b64 true h = .o64) ∧
  addrSize .b16 false = .a16 ∧ addrSize .b16 true = .a32 ∧ addrSize .b32 false = .a32 ∧ addrSize .b32 true = .a16 ∧
  addrSize .b64 false = .a64 ∧ addrSize .b64 true = .a32 ∧
  (∀ h66, legacyMp (some .F3) h66 = .pF3 ∧ legacyMp (some .F2) h66 = .pF2) ∧ legacyMp none true = .p66 ∧
  legacyMp none false = .NP ∧ ppMp 0 = .NP ∧ ppMp 1 = .p66 ∧ ppMp 2 = .pF3 ∧ ppMp 3 = .pF2

/-- How extension bits join ModRM.reg and ModRM.rm, by register class (43_modrm_sib.md section 1). The spec marks R221 (D28), R222 (D28) as its own reading. -/
def Obligations.RegisterNumbersByClass : Prop :=
  ∀ (p : Prefix) (f : BitVec 3),
    (∀ c ∈ [RegClass.r8, .r16, .r32, .r64],
      (regNumber c p f).toNat = 8 * p.r.toNat + f.toNat ∧ (rmNumber c p f).toNat = 8 * p.b.toNat + f.toNat) ∧
    (∀ c ∈ [RegClass.xmm, .ymm, .zmm],
      (regNumber c p f).toNat = 16 * p.rp.toNat + 8 * p.r.toNat + f.toNat ∧
      (p.space = .evex → (rmNumber c p f).toNat = 16 * p.x.toNat + 8 * p.b.toNat + f.toNat) ∧
      (p.space ≠ .evex → (rmNumber c p f).toNat = 8 * p.b.toNat + f.toNat)) ∧
    (∀ c ∈ [RegClass.mm, .k], (regNumber c p f).toNat = f.toNat ∧ (rmNumber c p f).toNat = f.toNat)

/-- The names of the registers of each family by number (10_state.md section 7). The spec marks R38, R39, R45 as its own reading. -/
def Obligations.RegisterNamesByNumber : Prop :=
  let names := fun (c : RegClass) (rexp : Bool) (k : Nat) =>
    (List.range k).map fun n => registerName (regOf c (BitVec.ofNat 5 n) rexp)
  names .r8 false 16 = ["AL", "CL", "DL", "BL", "AH", "CH", "DH", "BH", "R8L", "R9L", "R10L", "R11L", "R12L", "R13L",
    "R14L", "R15L"] ∧
  names .r8 true 16 = ["AL", "CL", "DL", "BL", "SPL", "BPL", "SIL", "DIL", "R8L", "R9L", "R10L", "R11L", "R12L", "R13L",
    "R14L", "R15L"] ∧
  ∀ rexp : Bool,
    names .r16 rexp 16 = ["AX", "CX", "DX", "BX", "SP", "BP", "SI", "DI", "R8W", "R9W", "R10W", "R11W", "R12W", "R13W",
      "R14W", "R15W"] ∧
    names .r32 rexp 16 = ["EAX", "ECX", "EDX", "EBX", "ESP", "EBP", "ESI", "EDI", "R8D", "R9D", "R10D", "R11D", "R12D",
      "R13D", "R14D", "R15D"] ∧
    names .r64 rexp 16 = ["RAX", "RCX", "RDX", "RBX", "RSP", "RBP", "RSI", "RDI", "R8", "R9", "R10", "R11", "R12", "R13",
      "R14", "R15"] ∧
    names .mm rexp 8 = (List.range 8).map (fun n => "MM" ++ toString n) ∧
    names .k rexp 8 = (List.range 8).map (fun n => "K" ++ toString n) ∧
    names .xmm rexp 32 = (List.range 32).map (fun n => "XMM" ++ toString n) ∧
    names .ymm rexp 32 = (List.range 32).map (fun n => "YMM" ++ toString n) ∧
    names .zmm rexp 32 = (List.range 32).map (fun n => "ZMM" ++ toString n)

/-- The 16-bit addressing table, its descriptor, and the displacement bytes read (R223, 43_modrm_sib.md section 2, R238). The spec marks R224 (D21), R225, R226 (D26), R237 (D27) as its own reading. -/
def Obligations.Addressing16Table : Prop :=
  (∀ (b : Bitness) (p : Prefix) (n : Nat) (m : ModRM), p.addrSize b = .a16 →
    let d := resolveMem b p n m
    (d.base.map registerName, d.index.map registerName) =
      (([(some "BX", some "SI"), (some "BX", some "DI"), (some "BP", some "SI"), (some "BP", some "DI"),
         (some "SI", none), (some "DI", none), (if m.mod = 0 then none else some "BP", none), (some "BX", none)][m.rm.toNat]?).getD
        (none, none)) ∧
    d.scale = 1 ∧
    d.segment = (match p.seg with
      | some g => g
      | none => if d.base.map registerName = some "BP" then .SS else .DS) ∧
    d.disp = dispValue .a16 n m.disp ∧ d.addrSize = .a16 ∧ d.dispSize = (match m.disp with
      | .none => 0
      | .d8 _ => 1
      | .d16 _ => 2
      | .d32 _ => 4)) ∧
  ∀ (q : Source) (t : Txn) (m : ModRM) (bs : List Byte),
    let field := fun bs : List Byte => match bs with
      | [x] => Disp.d8 x
      | [x, y] => .d16 (y ++ x)
      | [x, y, z, w] => .d32 (w ++ z ++ y ++ x)
      | _ => .none
    t.modrm = some m → m.sib = none →
    bs.length = (if m.mod.toNat = 0 ∧ m.rm.toNat = 6 then 2 else if m.mod.toNat = 1 then 1 else if m.mod.toNat = 2 then 2 else 0) →
    t.pos + bs.length ≤ q.start + 15 → HoldsBytes q.buf t.pos bs →
    addressStage q .a16 t = .ok { t with pos := t.pos + bs.length, modrm := some { m with disp := field bs } }

/-- The descriptor of 32- and 64-bit addressing, and the SIB and displacement bytes read (R220, R223, R227, 43_modrm_sib.md section 2, R229, R230, R233, R238). The spec marks R228 (D22, D23), R231 (D22), R232 (D24), R235 (D26), R237 (D27) as its own reading. -/
def Obligations.Addressing32And64 : Prop :=
  (∀ (b : Bitness) (p : Prefix) (n : Nat) (m : ModRM), p.addrSize b ≠ .a16 →
    let a := p.addrSize b
    let d := resolveMem b p n m
    let name := fun (k : Nat) => (if a = .a64
      then ["RAX", "RCX", "RDX", "RBX", "RSP", "RBP", "RSI", "RDI", "R8", "R9", "R10", "R11", "R12", "R13", "R14", "R15"]
      else ["EAX", "ECX", "EDX", "EBX", "ESP", "EBP", "ESI", "EDI", "R8D", "R9D", "R10D", "R11D", "R12D", "R13D", "R14D",
        "R15D"])[k]?
    (m.sib = none → d.index = none ∧ d.scale = 1 ∧
      (¬(m.mod = 0 ∧ m.rm = 5) → d.base.map registerName = name (8 * p.b.toNat + m.rm.toNat)) ∧
      (m.mod = 0 ∧ m.rm = 5 →
        d.base.map registerName = if b = .b64 then some (if a = .a64 then "RIP" else "EIP") else none)) ∧
    (∀ x, m.sib = some x → d.scale = 1 <<< x.ss.toNat ∧
      d.index.map registerName = (if 8 * p.x.toNat + x.idx.toNat = 4 then none else name (8 * p.x.toNat + x.idx.toNat)) ∧
      d.base.map registerName = (if m.mod = 0 ∧ x.bs = 5 then none else name (8 * p.b.toNat + x.bs.toNat))) ∧
    d.segment = (match p.seg with
      | some g => g
      | none => if d.base.map registerName ∈ [some "ESP", some "EBP", some "RSP", some "RBP"] then .SS else .DS) ∧
    d.disp = dispValue a n m.disp ∧ d.addrSize = a ∧ d.dispSize = (match m.disp with
      | .none => 0
      | .d8 _ => 1
      | .d16 _ => 2
      | .d32 _ => 4)) ∧
  (∀ v : Byte, splitModRM v =
    { mod := BitVec.ofNat 2 (v.toNat / 64), reg := BitVec.ofNat 3 (v.toNat / 8 % 8), rm := BitVec.ofNat 3 (v.toNat % 8),
      sib := none, disp := .none }) ∧
  ∀ (q : Source) (t : Txn) (a : AddrSize) (m : ModRM) (s : Byte) (bs : List Byte),
    let field := fun bs : List Byte => match bs with
      | [x] => Disp.d8 x
      | [x, y] => .d16 (y ++ x)
      | [x, y, z, w] => .d32 (w ++ z ++ y ++ x)
      | _ => .none
    a ≠ .a16 → t.modrm = some m → m.sib = none →
    ((m.mod.toNat = 3 ∨ m.rm.toNat ≠ 4) →
      bs.length = (if m.mod.toNat = 0 ∧ m.rm.toNat = 5 then 4 else if m.mod.toNat = 1 then 1 else if m.mod.toNat = 2 then 4 else 0) →
      t.pos + bs.length ≤ q.start + 15 → HoldsBytes q.buf t.pos bs →
      addressStage q a t = .ok { t with pos := t.pos + bs.length, modrm := some { m with disp := field bs } }) ∧
    (m.mod.toNat ≠ 3 → m.rm.toNat = 4 →
      bs.length = (if m.mod.toNat = 0 ∧ s.toNat % 8 = 5 then 4 else if m.mod.toNat = 1 then 1 else if m.mod.toNat = 2 then 4 else 0) →
      t.pos + 1 + bs.length ≤ q.start + 15 → HoldsBytes q.buf t.pos (s :: bs) →
      addressStage q a t = .ok { t with
        pos := t.pos + 1 + bs.length
        modrm := some { m with
          sib := some { ss := BitVec.ofNat 2 (s.toNat / 64), idx := BitVec.ofNat 3 (s.toNat / 8 % 8),
                        bs := BitVec.ofNat 3 (s.toNat % 8) }
          disp := field bs } })

/-- The displacement value: sign-extended, a one-byte field times N, modulo 2^ASZ (43_modrm_sib.md section 2). The spec marks R234 (D25), R236 (D32) as its own reading. -/
def Obligations.DisplacementScaledAndWrapped : Prop :=
  ∀ (n : Nat),
    (∀ d : BitVec 8, (dispValue .a16 n (.d8 d) : Int) = (d.toInt * n) % 2 ^ 16 ∧
      (dispValue .a32 n (.d8 d) : Int) = (d.toInt * n) % 2 ^ 32 ∧
      (dispValue .a64 n (.d8 d) : Int) = (d.toInt * n) % 2 ^ 64) ∧
    (∀ d : BitVec 32, dispValue .a32 n (.d32 d) = d.toNat ∧ (dispValue .a64 n (.d32 d) : Int) = d.toInt % 2 ^ 64) ∧
    (∀ d : BitVec 16, dispValue .a16 n (.d16 d) = d.toNat) ∧
    (∀ a, dispValue a n .none = 0) ∧
    ∀ (y : Body) (p : Prefix) (m : ModRM),
      dispFactor y p m = if p.bcst = true ∧ m.mod ≠ 3 then y.bcst else y.n

/-- Which bytes are read as the opcode, in which map (R191, R192). -/
def Obligations.OpcodeReadByMap : Prop :=
  ∀ (q : Source) (t : Txn) (v : Byte),
    let read := fun (n : Nat) (map : OpMap) => (Except.ok { t with
      pos := t.pos + n, opcode := some v, ps := { t.ps with map := map } } : Except FailureKind Txn)
    (t.ps.space = .legacy →
      (v ≠ 0x0F → t.pos + 1 ≤ q.start + 15 → HoldsBytes q.buf t.pos [v] → readOpcode q t = read 1 .m1B) ∧
      (v ≠ 0x38 → v ≠ 0x3A → t.pos + 2 ≤ q.start + 15 → HoldsBytes q.buf t.pos [0x0F, v] →
        readOpcode q t = read 2 .m0F) ∧
      (t.pos + 3 ≤ q.start + 15 → HoldsBytes q.buf t.pos [0x0F, 0x38, v] → readOpcode q t = read 3 .m0F38) ∧
      (t.pos + 3 ≤ q.start + 15 → HoldsBytes q.buf t.pos [0x0F, 0x3A, v] → readOpcode q t = read 3 .m0F3A)) ∧
    (t.ps.space ≠ .legacy → t.pos + 1 ≤ q.start + 15 → HoldsBytes q.buf t.pos [v] →
      readOpcode q t = read 1 t.ps.map)

/-- The candidate set, and the failure when it is empty (R193). -/
def Obligations.EmptyCandidateSetFails : Prop :=
  (∀ (rows : List Row) (ps : PrefixState) (op : Byte) (r : Row), r ∈ candidates rows ps op ↔
    r ∈ rows ∧ r.space = ps.space ∧ r.map = ps.map ∧ op &&& r.opmask = r.op) ∧
  ∀ (q : Source) (t t1 : Txn) (op : Byte), readOpcode q t = .ok t1 → t1.opcode = some op →
    candidates q.params.table t1.ps op = [] → dispatchStage q t = .error .InvalidOpcode

/-- Dispatch selects exactly one row (R198). -/
def Obligations.SelectedRowIsUnique : Prop :=
  ∀ (q : Source) (t t1 t2 : Txn) (op : Byte) (r : Row), admissible q.params.table = true →
    prefixStage q (Txn.initial q.start) = .ok t → readOpcode q t = .ok t1 → t1.opcode = some op →
    readModRM q (candidates q.params.table t1.ps op) t1 = .ok t2 →
    let osz := opSize q.bitness t2.ps.w t2.ps.has66
    let m := t2.modrm.getD ModRM.zero
    selectRow q.bitness t2.ps osz m (candidates q.params.table t1.ps op) = .ok r →
    inMode q.bitness (selected t2.ps osz m (candidates q.params.table t1.ps op)) = [r]

/-- The reference tables are admissible, and the rows that P_BRANCH66_IN64 = width16 gives (42_opcode_dispatch.md, 46_bitness_policy.md). The spec marks R203 (D16), R317 (D20) as its own reading. Which codes and bodies the rows of width16 have is the choice of the model, and which inputs count in condition (b) of R203 is read by inference (log entries 3 and 15). -/
def Obligations.TemplateRomIsAdmissible : Prop :=
  let memShape := fun s => match s with
    | Shape.rm _ => true
    | .mem => true
    | .moffs => true
    | _ => false
  let modrmShape := fun s => match s with
    | Shape.reg _ => true
    | .rm _ => true
    | .mem => true
    | _ => false
  templateRom.length = 183 ∧
  (∀ rom ∈ [templateRom, templateRom16], admissible rom = true ∧
    (rom.all fun r => rom.all fun r' =>
      !(decide (r.space = r'.space) && decide (r.map = r'.map) && decide ((r.op ^^^ r'.op) &&& r.opmask &&& r'.opmask = 0))
        || r.hasModrm == r'.hasModrm) = true ∧
    (rom.all fun r =>
      decide (r.ops.length ≤ maxOperands) && decide ((r.ops.filter memShape).length ≤ 1) &&
      (!(r.ops.any memShape) || r.mem.isSome) &&
      (!(r.ops.contains .mem) || decide (r.mod = some .mem)) &&
      r.hasModrm == (r.ops.any modrmShape || r.reg.isSome || r.mod.isSome) &&
      (decide (r.space = .evex) || (!r.k && !r.zeroing && r.bcst == 0 && decide (r.ersae = .none) && r.n == 1)) &&
      (!r.zeroing || r.k) && r.memB.isSome == (r.bcst != 0) &&
      (!r.lockable || (decide (r.space = .legacy) && match r.ops.head? with
        | some (.rm _) => true
        | some .mem => true
        | _ => false))) = true) ∧
  ∀ c64 c16, (c64, c16) ∈ [(Code.Je_rel8_64, Code.Je_rel8_16), (.Jmp_rel8_64, .Jmp_rel8_16), (.Call_rel32_64, .Call_rel16),
      (.Jmp_rel32_64, .Jmp_rel16), (.Je_rel32_64, .Je_rel16)] →
    ∀ (p : Params) (ps : PrefixState) (osz : OpSize) (m : ModRM), p.rom = .reference → ps.space = .legacy →
      ps.map = c64.row.map →
      ∃ r, selectRow .b64 ps osz m (candidates p.table ps c64.row.op) = .ok r ∧ r.isReference = true ∧
        r.code = .ref (if p.branch66In64 = .width16 ∧ osz = .o16 then c16 else c64)

/-- Which failure a missing row gives, and that the decode fails as its first failing stage does (42_opcode_dispatch.md, R200, R335, 60_exceptions.md section 3). The spec marks R196 (D31), R197 (D16), R339 (D35) as its own reading. -/
def Obligations.DispatchFailureKinds : Prop :=
  (∀ (b : Bitness) (ps : PrefixState) (osz : OpSize) (m : ModRM) (cand : List Row),
    (selected ps osz m cand = [] → selectRow b ps osz m cand = .error .InvalidOpcode) ∧
    (selected ps osz m cand ≠ [] → inMode b (selected ps osz m cand) = [] →
      selectRow b ps osz m cand = .error .InvalidModeForInstruction) ∧
    (inMode b (selected ps osz m cand) ≠ [] →
      ∃ r, r ∈ inMode b (selected ps osz m cand) ∧ selectRow b ps osz m cand = .ok r)) ∧
  (∀ (q : Source) (t : Txn), (∀ k, readOpcode q t = .error k → dispatchStage q t = .error k) ∧
    ∀ t1 op, readOpcode q t = .ok t1 → t1.opcode = some op → candidates q.params.table t1.ps op ≠ [] →
      (∀ k, readModRM q (candidates q.params.table t1.ps op) t1 = .error k → dispatchStage q t = .error k) ∧
      ∀ t2, readModRM q (candidates q.params.table t1.ps op) t1 = .ok t2 →
        ∀ k, selectRow q.bitness t2.ps (opSize q.bitness t2.ps.w t2.ps.has66) (t2.modrm.getD ModRM.zero)
          (candidates q.params.table t1.ps op) = .error k → dispatchStage q t = .error k) ∧
  (∀ (q : Source) (a : AddrSize) (t : Txn) (m : ModRM), t.modrm = some m →
    (∀ k, readSib q a m t = .error k → addressStage q a t = .error k) ∧
    ∀ m1 t1, readSib q a m t = .ok (m1, t1) → ∀ k, readDisp q a m1 t1 = .error k → addressStage q a t = .error k) ∧
  (∀ (q : Source) (a : AddrSize) (r : Row) (t : Txn) (k : FailureKind),
    readBytes q (trailLength a r.ops) t = .error k → trailStage q a r t = .error k) ∧
  ∀ (q : Source),
    (∀ k, prefixStage q (Txn.initial q.start) = .error k → decode q = .error k) ∧
    ∀ t1, prefixStage q (Txn.initial q.start) = .ok t1 →
      (∀ k, dispatchStage q t1 = .error k → decode q = .error k) ∧
      ∀ r t2, dispatchStage q t1 = .ok (r, t2) →
        let a := addrSize q.bitness t2.ps.has67
        (∀ k, addressStage q a t2 = .error k → decode q = .error k) ∧
        ∀ t3, addressStage q a t2 = .ok t3 →
          (∀ k, trailStage q a r t3 = .error k → decode q = .error k) ∧
          ∀ t4, trailStage q a r t3 = .ok t4 → decode q = .ok (decodedOf r (txnParts t4), t4)

/-- The feature checks on the selected row, one by one (42_opcode_dispatch.md). The spec marks R199 (D29, D30) as its own reading. That a row without a ModRM byte is tested with mod 0 is the choice of the model (log entry 16). -/
def Obligations.FeatureChecksOfTheSelectedRow : Prop :=
  (∀ (ps : PrefixState) (m : ModRM) (r : Row), featuresOk ps m r = true ↔
    (ps.space ≠ .legacy → (∀ c, Shape.vvvv c ∉ r.ops) → ps.vvvv.toNat = 0 ∧ ps.vp = false) ∧
    (ps.space = .evex →
      (ps.aaa.toNat ≠ 0 → r.k = true) ∧ (ps.z = true → r.zeroing = true) ∧ (ps.z = true → ps.aaa.toNat ≠ 0) ∧
      (ps.bcst = true → m.mod ≠ 3 → r.bcst ≠ 0) ∧ (ps.bcst = true → m.mod = 3 → r.ersae ≠ .none)) ∧
    (Shape.reg .k ∈ r.ops → ps.r = false ∧ ps.rp = false)) ∧
  ∀ (q : Source) (t t1 t2 : Txn) (op : Byte) (r : Row), readOpcode q t = .ok t1 → t1.opcode = some op →
    readModRM q (candidates q.params.table t1.ps op) t1 = .ok t2 →
    selectRow q.bitness t2.ps (opSize q.bitness t2.ps.w t2.ps.has66) (t2.modrm.getD ModRM.zero)
      (candidates q.params.table t1.ps op) = .ok r →
    (featuresOk t2.ps (t2.modrm.getD ModRM.zero) r = false → dispatchStage q t = .error .InvalidOpcode) ∧
    (featuresOk t2.ps (t2.modrm.getD ModRM.zero) r = true → ∃ t3, dispatchStage q t = .ok (r, t3) ∧ t3.pos = t2.pos)

/-- The byte strings of the source's five fixtures decode to their instructions (95_test_vectors.md section 1 (S1 to S5)). -/
def Obligations.SpecFixturesDecode : Prop :=
  decodeBytes .b16 [0x0F, 0x60, 0x08] = .ok (.punpcklbw_mm_mmm32
    { has66 := false, has67 := false, seg := none, rep := none, lock := false, rex := none }
    { mod := 0, reg := 1, rm := 0, sib := none, disp := .none }) ∧
  decodeBytes .b64 [0x66, 0x44, 0x0F, 0x60, 0xCD] = .ok (.punpcklbw_xmm_xmmm128
    { has66 := true, has67 := false, seg := none, rep := none, lock := false,
      rex := some { w := false, r := true, x := false, b := false } }
    { mod := 3, reg := 1, rm := 5, sib := none, disp := .none }) ∧
  (∀ b, decodeBytes b [0x62, 0xF1, 0x4D, 0x0B, 0x64, 0x50, 0x01] = .ok (.evex_vpcmpgtb_k_k1_xmm_xmmm128
    { has67 := false, seg := none, lock := false, w := false, r := false, x := false, b := false, rp := false,
      vp := false, vvvv := 6, ll := 0, z := false, bcst := false, aaa := 3 }
    { mod := 1, reg := 2, rm := 0, sib := none, disp := .d8 1 })) ∧
  decodeBytes .b16 [0x62, 0xF1, 0x4D, 0x9D, 0x62, 0x50, 0x01] = .ok (.evex_vpunpckldq_xmm_k1z_xmm_xmmm128b32
    { has67 := false, seg := none, lock := false, w := false, r := false, x := false, b := false, rp := false,
      vp := false, vvvv := 6, ll := 0, z := true, bcst := true, aaa := 5 }
    { mod := 1, reg := 2, rm := 0, sib := none, disp := .d8 1 }) ∧
  decodeBytes .b64 [0xC4, 0xC1, 0x49, 0x60, 0xD3] = .ok (.vex_vpunpcklbw_xmm_xmm_xmmm128
    { has67 := false, seg := none, lock := false, w := false, r := false, x := false, b := true, vvvv := 6, l := false }
    { mod := 3, reg := 2, rm := 3, sib := none, disp := .none })

/-- Decode and encode agree on every well-formed Legacy instruction (30_encoding.md section 1, 30_encoding.md section 4). The encoder is the choice of the model (log entry 10). -/
def Obligations.DecodeOfEncodeLegacy : Prop :=
  ∀ (q : Source) (i : Instr), admissible q.params.table = true → i.row.space = .legacy →
    WellFormedIn q.params q.bitness i = true → HoldsBytes q.buf q.start (encode i) →
    ∃ t, decode q = .ok (.instr i, t) ∧ t.pos = q.start + (encode i).length

/-- Decode and encode agree on every well-formed Vex instruction (30_encoding.md section 1, 30_encoding.md section 3). The encoder is the choice of the model (log entry 10). -/
def Obligations.DecodeOfEncodeVex : Prop :=
  ∀ (q : Source) (i : Instr), admissible q.params.table = true → i.row.space = .vex →
    WellFormedIn q.params q.bitness i = true → HoldsBytes q.buf q.start (encode i) →
    ∃ t, decode q = .ok (.instr i, t) ∧ t.pos = q.start + (encode i).length

/-- Decode and encode agree on every well-formed Evex instruction (30_encoding.md section 1, 30_encoding.md section 3). The encoder is the choice of the model (log entry 10). -/
def Obligations.DecodeOfEncodeEvex : Prop :=
  ∀ (q : Source) (i : Instr), admissible q.params.table = true → i.row.space = .evex →
    WellFormedIn q.params q.bitness i = true → HoldsBytes q.buf q.start (encode i) →
    ∃ t, decode q = .ok (.instr i, t) ∧ t.pos = q.start + (encode i).length

/-- Whatever the decoder answers passes every well-formedness check (R173, R193, R195, 42_opcode_dispatch.md, 43_modrm_sib.md, 46_bitness_policy.md). That a row without a ModRM byte is tested with mod 0 is the choice of the model (log entry 16). -/
def Obligations.DecodedPassesEveryCheck : Prop :=
  ∀ (q : Source) (d : Decoded) (t : Txn), admissible q.params.table = true → decode q = .ok (d, t) →
    ∃ r ∈ q.params.table, t.row = some r ∧ d = decodedOf r (txnParts t) ∧
      (r.space = t.ps.space ∧ r.map = t.ps.map ∧ (∃ op, t.opcode = some op ∧ op &&& r.opmask = r.op ∧
        (txnParts t).low.toNat = op.toNat % 8)) ∧
      (r.mp.all (· = t.ps.mp) = true ∧ r.osz.all (some · = t.osz) = true ∧ r.w.all (· = t.ps.w) = true ∧
        (∀ x, r.reg = some x → ∃ m, t.modrm = some m ∧ m.reg = x) ∧
        (∀ x, r.mod = some x → ∃ m, t.modrm = some m ∧ (m.mod = 3 ↔ x = .reg))) ∧
      t.ps.mp = (if t.ps.space = .legacy then legacyMp t.ps.rep t.ps.has66 else ppMp t.ps.pp) ∧
      t.osz = some (opSize q.bitness t.ps.w t.ps.has66) ∧ t.asz = some (addrSize q.bitness t.ps.has67) ∧
      (let x := (txnParts t).pfx
       x.space = t.ps.space ∧ x.has66 = t.ps.has66 ∧ x.has67 = t.ps.has67 ∧ x.seg = t.ps.seg ∧ x.rep = t.ps.rep ∧
       x.lock = t.ps.lock ∧ x.rexPresent = t.ps.rexPresent ∧ x.w = t.ps.w ∧ x.r = t.ps.r ∧ x.x = t.ps.x ∧ x.b = t.ps.b ∧
       x.rp = t.ps.rp ∧ x.vp = t.ps.vp ∧ x.vvvv = t.ps.vvvv ∧ x.bcst = t.ps.bcst ∧
       (∀ v, x = .vex v → v.l = t.ps.ll.getLsbD 0) ∧
       (∀ e, x = .evex e → e.ll = t.ps.ll ∧ e.z = t.ps.z ∧ e.aaa = t.ps.aaa)) ∧
      (txnParts t).modrm = t.modrm ∧ (txnParts t).trail = t.trail ∧
      (wfChecks q.bitness r (txnParts t)).all id = true ∧
      ∀ i, d = .instr i → r.code = .ref i.code ∧ (wfChecks q.bitness r i.fields.toParts).all id = true ∧
        i.fields.pfx = (txnParts t).pfx ∧ i.fields.modrm = t.modrm ∧ i.fields.trail = t.trail ∧
        (r.opmask = 0xF8 → i.fields.low = (txnParts t).low)

/-- The encoder writes no more bytes than any byte string that decodes to the instruction (30_encoding.md section 1). The encoder is the choice of the model (log entry 10). -/
def Obligations.EncodeIsNeverLonger : Prop :=
  (∀ i : Instr, (encode i).length = i.fields.size) ∧
  ∀ (q : Source) (i : Instr) (t : Txn), decode q = .ok (.instr i, t) → q.start + (encode i).length ≤ t.pos

/-- A decode that succeeds consumes one to fifteen bytes, all inside the buffer (30_encoding.md section 1). The spec marks R93 (D3) as its own reading. -/
def Obligations.DecodeReadsWithinBounds : Prop :=
  ∀ (q : Source) (d : Decoded) (t : Txn), decode q = .ok (d, t) →
    q.start + 1 ≤ t.pos ∧ t.pos ≤ q.start + 15 ∧ t.pos ≤ q.buf.len

/-- EndOfInput arises only when the buffer ends within fifteen bytes of START (R331, R150). -/
def Obligations.EndOfInputOnlyAtBufferEnd : Prop :=
  ∀ (q : Source), decode q = .error .EndOfInput → q.buf.len < q.start + 15

/-- No stage before operand assembly raises InvalidLockUsage (R334). -/
def Obligations.DecodeNeverFailsOnLock : Prop :=
  (∀ (q : Source), decode q ≠ .error .InvalidLockUsage) ∧
  ∀ (i : Instr) (s : State) (q : Request) (t : Txn), InTxn s q t →
    (exec i s = .next (done s (.fail .InvalidLockUsage)) ↔
      i.fields.pfx.lock = true ∧ ¬(i.row.lockable = true ∧ destInMemory i = true)) ∧
    ∀ (r : Row) (f : Parts), assembleRow r f s = .next (done s (.fail .InvalidLockUsage)) ↔
      f.pfx.lock = true ∧ ¬(r.lockable = true ∧ rowDestInMemory r f = true)

/-- Bytes after the buffer's end change nothing but an EndOfInput (R374, R331, R351). -/
def Obligations.AppendedBytesKeepTheAnswer : Prop :=
  ∀ (q : Source) (b : Memory), (∀ a, a < q.buf.len → b.read a = q.buf.read a) →
    decode q ≠ .error .EndOfInput → decode { q with buf := b } = decode q

/-- Repeating the first legacy prefix byte changes nothing but the length (R119, R175, R338). -/
def Obligations.RepeatedPrefixAddsOneByte : Prop :=
  ∀ (b : Bitness) (prm : Params) (v : Byte) (bs : List Byte) (d : Decoded) (t : Txn),
    (legacyPrefix v PrefixState.initial).isSome = true →
    decode { buf := Memory.ofBytes (v :: bs), start := 0, bitness := b, params := prm } = .ok (d, t) →
    (t.pos < 14 ∨ (t.pos < 15 ∧ prm.rom = .reference)) →
    ∃ t', decode { buf := Memory.ofBytes (v :: v :: bs), start := 0, bitness := b, params := prm } = .ok (d, t') ∧
      t'.pos = t.pos + 1

/-- A step on a waiting request runs the decoded instruction, or takes the failure exit (R21, R335, 60_exceptions.md section 2, 60_exceptions.md section 4). The spec marks R337 (D36), R342 as its own reading. -/
def Obligations.StepRunsTheDecodedInstruction : Prop :=
  ∀ (s : State) (q : Request), Pending s q →
    (∀ i t, decode (s.source q) = .ok (.instr i, t) →
      step s = exec i { params := s.params, buf := s.buf, request := s.request, txn := some t, response := s.response }) ∧
    (∀ r f t, decode (s.source q) = .ok (.row r f, t) →
      step s = assembleRow r f { params := s.params, buf := s.buf, request := s.request, txn := some t,
                                 response := s.response }) ∧
    (∀ k, decode (s.source q) = .error k → step s = .next (done s (.fail k)))

/-- Without a waiting request a step changes nothing (R350, 70_reset_and_hazards.md section 3). The spec marks R381 (D44) as its own reading. That an idle step answers the same state is the choice of the model (log entry 8). -/
def Obligations.IdleBlockDoesNothing : Prop :=
  ∀ (s : State), (s.request = none ∨ s.response ≠ none) → step s = .next s

/-- The block never stops: every step answers a next state (R21, R380). That an idle step answers a state is the choice of the model (log entry 8). -/
def Obligations.StepAlwaysAnswersAState : Prop :=
  ∀ (s : State), ∃ s', step s = .next s' ∧ ∀ q, Pending s q → ∃ r, s' = done s r

/-- Every returned record meets the invariants of the data model (R36). -/
def Obligations.ReturnedRecordsMeetTheInvariants : Prop :=
  ∀ (s s' : State) (q : Request) (out : Instruction), admissible s.params.table = true → Pending s q →
    step s = .next s' → s'.response = some (.ok out) →
    q.start + out.byteLength ≤ s.buf.len ∧
      ∃ r d t, r ∈ s.params.table ∧ Instruction.Inv r out ∧ decode (s.source q) = .ok (d, t) ∧
        d = decodedOf r (txnParts t) ∧ q.start + out.byteLength = t.pos ∧
        (out.vec.any (fun v => v.roundingControl.isSome || v.suppressAllExceptions) = true →
          r.space = .evex ∧ (txnParts t).pfx.bcst = true ∧ (txnParts t).m.mod = 3)

/-- Every step keeps the invariant of the state (R36, R43, R51, R276). The canonical form of the buffer is the choice of the model (log entry 1). -/
def Obligations.StepKeepsTheInvariant : Prop :=
  ∀ (s s' : State), s.Inv → step s = .next s' → s'.Inv

/-- The state after reset has the invariant (10_state.md section 10, 70_reset_and_hazards.md section 1). The spec marks R50 (D37), R370 (D37) as its own reading. The canonical form, the empty buffer and the reference parameters after reset are the choices of the model (log entries 1, 2 and 4). -/
def Obligations.ResetHasTheInvariant : Prop :=
  State.reset.Inv ∧ ∀ p : Params, admissible p.table = true → (State.resetWith p).Inv

/-- After reset: tables, no request, no transaction, no response (R24, 10_state.md section 3, 10_state.md section 10, 70_reset_and_hazards.md section 1, R371). The spec marks R26 (D12, D40), R50 (D37), R370 (D37) as its own reading. That State.reset holds the reference parameters is the choice of the model (log entry 2). -/
def Obligations.ResetHoldsNothingTransient : Prop :=
  (∀ p : Params, (State.resetWith p).params = p ∧ (State.resetWith p).request = none ∧ (State.resetWith p).txn = none ∧
    (State.resetWith p).response = none) ∧
  State.reset = State.resetWith Params.reference ∧ State.reset.params.table = templateRom ∧ templateRom.length = 183 ∧
  ∀ (s : State) (q : Request), (s.begin q).txn = some (Txn.initial q.start) ∧
    Txn.initial q.start = {
      pos := q.start
      ps := { has66 := false, has67 := false, seg := none, rep := none, lock := false, rexPresent := false, w := false,
              r := false, x := false, b := false, rp := false, vp := false, vvvv := 0, ll := 0, z := false, bcst := false,
              aaa := 0, pp := 0, space := .legacy, map := .m1B, mp := .NP, prefixCount := 0 }
      opcode := none, osz := none, asz := none, row := none, modrm := none, trail := [], mem := none, out := none }

/-- A step changes neither the request, the parameters nor any byte of the buffer (10_state.md section 1, R60, R69). The spec marks R20 (D2) as its own reading. That the request stays in the state with its response is the choice of the model (log entry 8). -/
def Obligations.StepLeavesRequestAndBufferAlone : Prop :=
  ∀ (s s' : State), step s = .next s' →
    s'.params = s.params ∧ s'.request = s.request ∧ (∀ a, s'.buf.read a = s.buf.read a) ∧ s'.buf.len = s.buf.len ∧
    (∀ q, Pending s q → s'.txn = none)

/-- The response depends only on the fifteen bytes from START, the mode, IP and the parameters (R351). -/
def Obligations.WindowDeterminesTheResponse : Prop :=
  ∀ (s1 s2 : State) (q1 q2 : Request), Pending s1 q1 → Pending s2 q2 → s1.params = s2.params → q1.ip = q2.ip →
    q1.bitness = q2.bitness → (∀ k, k < 15 → s1.buf.read (q1.start + k) = s2.buf.read (q2.start + k)) →
    ∃ r, step s1 = .next (done s1 r) ∧ step s2 = .next (done s2 r)

/-- IP changes nothing but branch targets (70_reset_and_hazards.md section 2). The spec marks R378 as its own reading. -/
def Obligations.IpMovesOnlyBranchTargets : Prop :=
  ∀ (s : State) (q : Request) (ip : Ip), Pending s q →
    ∃ r r', step s = .next (done s r) ∧
      step { s with request := some { q with ip := ip } } = .next (done { s with request := some { q with ip := ip } } r') ∧
      r.eraseTarget = r'.eraseTarget

/-- Outside 64-bit mode no register of a result is numbered 8 or more (46_bitness_policy.md). The spec marks R315 as its own reading. -/
def Obligations.NoExtendedRegisterOutside64 : Prop :=
  ∀ (s s' : State) (q : Request) (out : Instruction), Pending s q → q.bitness ≠ .b64 →
    (∀ y ∈ s.params.table, ∀ x, Shape.fixed x ∈ y.ops → Register.extended x = false) → step s = .next s' →
    s'.response = some (.ok out) → ∀ o ∈ out.operands, ∀ r ∈ Operand.registers o, Register.extended r = false

/-- The caller's loop over a buffer of encoded instructions gets each of them back in order (10_state.md section 2, R376). The spec marks R25 (D2) as its own reading. The encoder is the choice of the model (log entry 10). -/
def Obligations.CallerRunDecodesTheEncodedList : Prop :=
  ∀ (prm : Params) (ip : Ip) (b : Bitness) (i : Instr) (xs : List (Bitness × Instr)), admissible prm.table = true →
    (∀ x ∈ (b, i) :: xs, WellFormedIn prm x.1 x.2 = true ∧ x.2.fields.pfx.lock = false) →
    let s : State := { params := prm, buf := Memory.ofBytes (((b, i) :: xs).flatMap fun x => encode x.2),
                       request := some { start := 0, ip := ip, bitness := b }, txn := none, response := none }
    let run := callerRun (xs.map Prod.fst) s
    run.length = ((b, i) :: xs).length ∧
    ∀ (k : Nat) (x : Bitness × Instr), ((b, i) :: xs)[k]? = some x →
      let off := ((((b, i) :: xs).take k).map fun y => (encode y.2).length).sum
      ∃ out, run[k]? = some (.ok out) ∧ out.code = .ref x.2.code ∧ out.byteLength = (encode x.2).length ∧
        responseOf (exec x.2 { params := prm, buf := s.buf,
                               request := some { start := off, ip := ip + BitVec.ofNat 64 off, bitness := x.1 },
                               txn := some { Txn.initial off with pos := off + (encode x.2).length },
                               response := none }) = some (.ok out)

/-- Every meaning is the template-driven assembly of its row (R260, R261, R262, R263, 44_operand_assembly.md section 1, R270, R271). The spec marks R264 (D28), R265, R266, R267 (D33), R268 (D33), R269 (D25, D43) as its own reading. -/
def Obligations.MeaningsFollowTheTemplateWalk : Prop :=
  (∀ (i : Instr) (s : State), exec i s = assembleRow i.row i.fields.toParts s) ∧
  (∀ (r : Row) (f : Parts) (i : Instr) (s : State), decodedOf r f = .instr i → f.pfx.space = r.space →
    exec i s = assembleRow r f s) ∧
  (∀ (a : AddrSize) (n w : Nat) (sx : Bool) (c : RegClass) (x : Register),
    shapeBytes a (.imm n w sx) = n ∧ shapeBytes a (.rel n w) = n ∧
    shapeBytes .a16 .moffs = 2 ∧ shapeBytes .a32 .moffs = 4 ∧ shapeBytes .a64 .moffs = 8 ∧
    ∀ s ∈ [Shape.reg c, .rm c, .mem, .vvvv c, .opreg c, .fixed x], shapeBytes a s = 0) ∧
  ∀ (q : Source) (t : Txn) (a : AddrSize) (r : Row) (bs : List Byte), bs.length = (r.ops.map (shapeBytes a)).sum →
    t.pos + bs.length ≤ q.start + 15 → HoldsBytes q.buf t.pos bs →
    trailStage q a r t = .ok { t with pos := t.pos + bs.length, trail := bs }

/-- Every instruction responds Ok with its code, length and flags when LOCK is legal (R272, 44_operand_assembly.md section 3, R277, R278). The spec marks R273 (D10) as its own reading. -/
def Obligations.EveryInstructionCompletes : Prop :=
  (∀ (i : Instr) (s : State) (q : Request) (t : Txn), InTxn s q t → LockLegal i →
    ∃ out, exec i s = .next (done s (.ok out)) ∧ out.code = .ref i.code ∧ out.byteLength = t.pos - q.start ∧
      out.opCount = i.row.ops.length ∧ out.operands.length = 4 ∧
      out.hasLock = i.fields.pfx.lock ∧ out.segmentOverride = i.fields.pfx.seg ∧
      (out.hasRep = true ↔ i.fields.pfx.rep = some .F3 ∧ i.row.space = .legacy ∧ i.row.mp = none) ∧
      (out.hasRepne = true ↔ i.fields.pfx.rep = some .F2 ∧ i.row.space = .legacy ∧ i.row.mp = none)) ∧
  ∀ (r : Row) (f : Parts) (s : State) (q : Request) (t : Txn), InTxn s q t → f.pfx.space = r.space →
    (f.pfx.lock = true → r.lockable = true ∧ rowDestInMemory r f = true) →
    ∃ out, assembleRow r f s = .next (done s (.ok out)) ∧ out.code = r.code ∧ out.byteLength = t.pos - q.start ∧
      out.opCount = r.ops.length ∧ out.operands.length = 4 ∧
      out.hasLock = f.pfx.lock ∧ out.segmentOverride = f.pfx.seg ∧
      (out.hasRep = true ↔ f.pfx.rep = some .F3 ∧ r.space = .legacy ∧ r.mp = none) ∧
      (out.hasRepne = true ↔ f.pfx.rep = some .F2 ∧ r.space = .legacy ∧ r.mp = none)

/-- A meaning changes nothing but the transaction and the response (10_state.md section 1, R60, R278, 60_exceptions.md section 4). The spec marks R20 (D2), R342 as its own reading. -/
def Obligations.MeaningsLeaveEverythingElse : Prop :=
  ∀ (s s' : State), ((∃ i, exec i s = .next s') ∨ ∃ r f, assembleRow r f s = .next s') →
    s'.params = s.params ∧ s'.request = s.request ∧ s'.buf = s.buf ∧ (∀ a, s'.buf.read a = s.buf.read a) ∧
    s'.txn = none ∧ s'.response ≠ none

/-- The memory operand has the size of the row, or its broadcast size (R270). -/
def Obligations.MemorySizeOfTheOperand : Prop :=
  (∀ (i : Instr) (s s' : State) (out : Instruction), exec i s = .next s' → s'.response = some (.ok out) →
    (i.fields.pfx.bcst = true → i.row.bcst ≠ 0) → ∀ d z, Operand.memory d z ∈ out.operands →
      some z = if i.row.space = .evex ∧ i.fields.pfx.bcst = true ∧ i.fields.m.mod ≠ 3 then i.row.memB else i.row.mem) ∧
  ∀ (r : Row) (f : Parts) (s s' : State) (out : Instruction), rowAdmissible r = true → f.pfx.space = r.space →
    (r.space = .evex → Shape.moffs ∉ r.ops) → assembleRow r f s = .next s' → s'.response = some (.ok out) →
    (f.pfx.bcst = true → r.bcst ≠ 0) → ∀ d z, Operand.memory d z ∈ out.operands →
      some z = if r.space = .evex ∧ f.pfx.bcst = true ∧ f.m.mod ≠ 3 then r.memB else r.mem

/-- Records of Add and Mov with a register or memory destination and a register source (47_codes_legacy_onebyte_a.md, 47_codes_legacy_onebyte_b.md). -/
def Obligations.RecordsOfRmRegRows : Prop :=
  ∀ (s : State) (q : Request) (t : Txn) (p : LegacyPrefix) (m : ModRM), InTxn s q t →
    let x : Prefix := .legacy p
    let L := t.pos - q.start
    ((p.lock = false ∨ m.mod ≠ 3) → exec (.add_rm8_r8 p m) s = .next (done s (.ok (legacyRecord .Add_rm8_r8 p true L [rmOpd q.bitness .r8 x 1 m .UInt8, regOpd .r8 x m])))) ∧
    ((p.lock = false ∨ m.mod ≠ 3) → exec (.add_rm16_r16 p m) s = .next (done s (.ok (legacyRecord .Add_rm16_r16 p true L [rmOpd q.bitness .r16 x 1 m .UInt16, regOpd .r16 x m])))) ∧
    ((p.lock = false ∨ m.mod ≠ 3) → exec (.add_rm32_r32 p m) s = .next (done s (.ok (legacyRecord .Add_rm32_r32 p true L [rmOpd q.bitness .r32 x 1 m .UInt32, regOpd .r32 x m])))) ∧
    ((p.lock = false ∨ m.mod ≠ 3) → exec (.add_rm64_r64 p m) s = .next (done s (.ok (legacyRecord .Add_rm64_r64 p true L [rmOpd q.bitness .r64 x 1 m .UInt64, regOpd .r64 x m])))) ∧
    (p.lock = false → exec (.mov_rm8_r8 p m) s = .next (done s (.ok (legacyRecord .Mov_rm8_r8 p true L [rmOpd q.bitness .r8 x 1 m .UInt8, regOpd .r8 x m])))) ∧
    (p.lock = false → exec (.mov_rm16_r16 p m) s = .next (done s (.ok (legacyRecord .Mov_rm16_r16 p true L [rmOpd q.bitness .r16 x 1 m .UInt16, regOpd .r16 x m])))) ∧
    (p.lock = false → exec (.mov_rm32_r32 p m) s = .next (done s (.ok (legacyRecord .Mov_rm32_r32 p true L [rmOpd q.bitness .r32 x 1 m .UInt32, regOpd .r32 x m])))) ∧
    (p.lock = false → exec (.mov_rm64_r64 p m) s = .next (done s (.ok (legacyRecord .Mov_rm64_r64 p true L [rmOpd q.bitness .r64 x 1 m .UInt64, regOpd .r64 x m]))))

/-- Records of Add and Mov with a register destination and a register or memory source (47_codes_legacy_onebyte_a.md, 47_codes_legacy_onebyte_b.md). -/
def Obligations.RecordsOfRegRmRows : Prop :=
  ∀ (s : State) (q : Request) (t : Txn) (p : LegacyPrefix) (m : ModRM), InTxn s q t →
    let x : Prefix := .legacy p
    let L := t.pos - q.start
    (p.lock = false → exec (.add_r8_rm8 p m) s = .next (done s (.ok (legacyRecord .Add_r8_rm8 p true L [regOpd .r8 x m, rmOpd q.bitness .r8 x 1 m .UInt8])))) ∧
    (p.lock = false → exec (.add_r16_rm16 p m) s = .next (done s (.ok (legacyRecord .Add_r16_rm16 p true L [regOpd .r16 x m, rmOpd q.bitness .r16 x 1 m .UInt16])))) ∧
    (p.lock = false → exec (.add_r32_rm32 p m) s = .next (done s (.ok (legacyRecord .Add_r32_rm32 p true L [regOpd .r32 x m, rmOpd q.bitness .r32 x 1 m .UInt32])))) ∧
    (p.lock = false → exec (.add_r64_rm64 p m) s = .next (done s (.ok (legacyRecord .Add_r64_rm64 p true L [regOpd .r64 x m, rmOpd q.bitness .r64 x 1 m .UInt64])))) ∧
    (p.lock = false → exec (.mov_r8_rm8 p m) s = .next (done s (.ok (legacyRecord .Mov_r8_rm8 p true L [regOpd .r8 x m, rmOpd q.bitness .r8 x 1 m .UInt8])))) ∧
    (p.lock = false → exec (.mov_r16_rm16 p m) s = .next (done s (.ok (legacyRecord .Mov_r16_rm16 p true L [regOpd .r16 x m, rmOpd q.bitness .r16 x 1 m .UInt16])))) ∧
    (p.lock = false → exec (.mov_r32_rm32 p m) s = .next (done s (.ok (legacyRecord .Mov_r32_rm32 p true L [regOpd .r32 x m, rmOpd q.bitness .r32 x 1 m .UInt32])))) ∧
    (p.lock = false → exec (.mov_r64_rm64 p m) s = .next (done s (.ok (legacyRecord .Mov_r64_rm64 p true L [regOpd .r64 x m, rmOpd q.bitness .r64 x 1 m .UInt64]))))

/-- Records of the immediate forms of Add, Cmp and Mov (47_codes_legacy_onebyte_a.md, 47_codes_legacy_onebyte_b.md, 47_codes_legacy_onebyte_c.md). -/
def Obligations.RecordsOfImmediateRows : Prop :=
  ∀ (s : State) (q : Request) (t : Txn) (p : LegacyPrefix) (imm8 : BitVec 8) (imm16 : BitVec 16) (imm32 : BitVec 32) (m : ModRM) (low : BitVec 3) (imm64 : BitVec 64), InTxn s q t →
    let x : Prefix := .legacy p
    let L := t.pos - q.start
    (p.lock = false → exec (.add_AL_imm8 p imm8) s = .next (done s (.ok (legacyRecord .Add_AL_imm8 p true L [.register (.r8 .AL), .immediate imm8.toNat 8 1])))) ∧
    (p.lock = false → exec (.add_AX_imm16 p imm16) s = .next (done s (.ok (legacyRecord .Add_AX_imm16 p true L [.register (.r16 0), .immediate imm16.toNat 16 2])))) ∧
    (p.lock = false → exec (.add_EAX_imm32 p imm32) s = .next (done s (.ok (legacyRecord .Add_EAX_imm32 p true L [.register (.r32 0), .immediate imm32.toNat 32 4])))) ∧
    (p.lock = false → exec (.add_RAX_imm32 p imm32) s = .next (done s (.ok (legacyRecord .Add_RAX_imm32 p true L [.register (.r64 0), .immediate (imm32.signExtend 64).toNat 64 4])))) ∧
    ((p.lock = false ∨ m.mod ≠ 3) → exec (.add_rm8_imm8 p m imm8) s = .next (done s (.ok (legacyRecord .Add_rm8_imm8 p true L [rmOpd q.bitness .r8 x 1 m .UInt8, .immediate imm8.toNat 8 1])))) ∧
    (p.lock = false → exec (.cmp_rm8_imm8 p m imm8) s = .next (done s (.ok (legacyRecord .Cmp_rm8_imm8 p true L [rmOpd q.bitness .r8 x 1 m .UInt8, .immediate imm8.toNat 8 1])))) ∧
    ((p.lock = false ∨ m.mod ≠ 3) → exec (.add_rm16_imm16 p m imm16) s = .next (done s (.ok (legacyRecord .Add_rm16_imm16 p true L [rmOpd q.bitness .r16 x 1 m .UInt16, .immediate imm16.toNat 16 2])))) ∧
    ((p.lock = false ∨ m.mod ≠ 3) → exec (.add_rm32_imm32 p m imm32) s = .next (done s (.ok (legacyRecord .Add_rm32_imm32 p true L [rmOpd q.bitness .r32 x 1 m .UInt32, .immediate imm32.toNat 32 4])))) ∧
    ((p.lock = false ∨ m.mod ≠ 3) → exec (.add_rm64_imm32 p m imm32) s = .next (done s (.ok (legacyRecord .Add_rm64_imm32 p true L [rmOpd q.bitness .r64 x 1 m .UInt64, .immediate (imm32.signExtend 64).toNat 64 4])))) ∧
    (p.lock = false → exec (.cmp_rm16_imm16 p m imm16) s = .next (done s (.ok (legacyRecord .Cmp_rm16_imm16 p true L [rmOpd q.bitness .r16 x 1 m .UInt16, .immediate imm16.toNat 16 2])))) ∧
    (p.lock = false → exec (.cmp_rm32_imm32 p m imm32) s = .next (done s (.ok (legacyRecord .Cmp_rm32_imm32 p true L [rmOpd q.bitness .r32 x 1 m .UInt32, .immediate imm32.toNat 32 4])))) ∧
    (p.lock = false → exec (.cmp_rm64_imm32 p m imm32) s = .next (done s (.ok (legacyRecord .Cmp_rm64_imm32 p true L [rmOpd q.bitness .r64 x 1 m .UInt64, .immediate (imm32.signExtend 64).toNat 64 4])))) ∧
    ((p.lock = false ∨ m.mod ≠ 3) → exec (.add_rm16_imm8 p m imm8) s = .next (done s (.ok (legacyRecord .Add_rm16_imm8 p true L [rmOpd q.bitness .r16 x 1 m .UInt16, .immediate (imm8.signExtend 16).toNat 16 1])))) ∧
    ((p.lock = false ∨ m.mod ≠ 3) → exec (.add_rm32_imm8 p m imm8) s = .next (done s (.ok (legacyRecord .Add_rm32_imm8 p true L [rmOpd q.bitness .r32 x 1 m .UInt32, .immediate (imm8.signExtend 32).toNat 32 1])))) ∧
    ((p.lock = false ∨ m.mod ≠ 3) → exec (.add_rm64_imm8 p m imm8) s = .next (done s (.ok (legacyRecord .Add_rm64_imm8 p true L [rmOpd q.bitness .r64 x 1 m .UInt64, .immediate (imm8.signExtend 64).toNat 64 1])))) ∧
    (p.lock = false → exec (.cmp_rm16_imm8 p m imm8) s = .next (done s (.ok (legacyRecord .Cmp_rm16_imm8 p true L [rmOpd q.bitness .r16 x 1 m .UInt16, .immediate (imm8.signExtend 16).toNat 16 1])))) ∧
    (p.lock = false → exec (.cmp_rm32_imm8 p m imm8) s = .next (done s (.ok (legacyRecord .Cmp_rm32_imm8 p true L [rmOpd q.bitness .r32 x 1 m .UInt32, .immediate (imm8.signExtend 32).toNat 32 1])))) ∧
    (p.lock = false → exec (.cmp_rm64_imm8 p m imm8) s = .next (done s (.ok (legacyRecord .Cmp_rm64_imm8 p true L [rmOpd q.bitness .r64 x 1 m .UInt64, .immediate (imm8.signExtend 64).toNat 64 1])))) ∧
    (p.lock = false → exec (.mov_r8_imm8 p low imm8) s = .next (done s (.ok (legacyRecord .Mov_r8_imm8 p true L [opregOpd .r8 x low, .immediate imm8.toNat 8 1])))) ∧
    (p.lock = false → exec (.mov_r16_imm16 p low imm16) s = .next (done s (.ok (legacyRecord .Mov_r16_imm16 p true L [opregOpd .r16 x low, .immediate imm16.toNat 16 2])))) ∧
    (p.lock = false → exec (.mov_r32_imm32 p low imm32) s = .next (done s (.ok (legacyRecord .Mov_r32_imm32 p true L [opregOpd .r32 x low, .immediate imm32.toNat 32 4])))) ∧
    (p.lock = false → exec (.mov_r64_imm64 p low imm64) s = .next (done s (.ok (legacyRecord .Mov_r64_imm64 p true L [opregOpd .r64 x low, .immediate imm64.toNat 64 8]))))

/-- Records of Inc and Dec (47_codes_legacy_onebyte_a.md, 47_codes_legacy_onebyte_c.md). -/
def Obligations.RecordsOfIncDecRows : Prop :=
  ∀ (s : State) (q : Request) (t : Txn) (p : LegacyPrefix) (low : BitVec 3) (m : ModRM), InTxn s q t →
    let x : Prefix := .legacy p
    let L := t.pos - q.start
    (p.lock = false → exec (.inc_r16 p low) s = .next (done s (.ok (legacyRecord .Inc_r16 p true L [opregOpd .r16 x low])))) ∧
    (p.lock = false → exec (.inc_r32 p low) s = .next (done s (.ok (legacyRecord .Inc_r32 p true L [opregOpd .r32 x low])))) ∧
    (p.lock = false → exec (.dec_r16 p low) s = .next (done s (.ok (legacyRecord .Dec_r16 p true L [opregOpd .r16 x low])))) ∧
    (p.lock = false → exec (.dec_r32 p low) s = .next (done s (.ok (legacyRecord .Dec_r32 p true L [opregOpd .r32 x low])))) ∧
    ((p.lock = false ∨ m.mod ≠ 3) → exec (.inc_rm8 p m) s = .next (done s (.ok (legacyRecord .Inc_rm8 p true L [rmOpd q.bitness .r8 x 1 m .UInt8])))) ∧
    ((p.lock = false ∨ m.mod ≠ 3) → exec (.dec_rm8 p m) s = .next (done s (.ok (legacyRecord .Dec_rm8 p true L [rmOpd q.bitness .r8 x 1 m .UInt8])))) ∧
    ((p.lock = false ∨ m.mod ≠ 3) → exec (.inc_rm16 p m) s = .next (done s (.ok (legacyRecord .Inc_rm16 p true L [rmOpd q.bitness .r16 x 1 m .UInt16])))) ∧
    ((p.lock = false ∨ m.mod ≠ 3) → exec (.inc_rm32 p m) s = .next (done s (.ok (legacyRecord .Inc_rm32 p true L [rmOpd q.bitness .r32 x 1 m .UInt32])))) ∧
    ((p.lock = false ∨ m.mod ≠ 3) → exec (.inc_rm64 p m) s = .next (done s (.ok (legacyRecord .Inc_rm64 p true L [rmOpd q.bitness .r64 x 1 m .UInt64])))) ∧
    ((p.lock = false ∨ m.mod ≠ 3) → exec (.dec_rm16 p m) s = .next (done s (.ok (legacyRecord .Dec_rm16 p true L [rmOpd q.bitness .r16 x 1 m .UInt16])))) ∧
    ((p.lock = false ∨ m.mod ≠ 3) → exec (.dec_rm32 p m) s = .next (done s (.ok (legacyRecord .Dec_rm32 p true L [rmOpd q.bitness .r32 x 1 m .UInt32])))) ∧
    ((p.lock = false ∨ m.mod ≠ 3) → exec (.dec_rm64 p m) s = .next (done s (.ok (legacyRecord .Dec_rm64 p true L [rmOpd q.bitness .r64 x 1 m .UInt64]))))

/-- Records of Mov with a direct address and of Lea, and the direct address of any row (44_operand_assembly.md section 1, 20_memory.md section 2, R111, 47_codes_legacy_onebyte_b.md, 47_codes_legacy_onebyte_c.md). The spec marks R269 (D25, D43), R61 (D5) as its own reading. That the size of a direct address on an EVEX row with b = 1 is mem is the choice of the model (log entry 16). -/
def Obligations.RecordsOfMoffsAndLeaRows : Prop :=
  let desc := fun (p : Prefix) (a : Moffs) =>
    let g := match p.seg with
      | some g => g
      | none => SegReg.DS
    match a with
    | .a16 v => ({ segment := g, base := none, index := none, scale := 1, disp := v.toNat, dispSize := 2,
                   addrSize := .a16 } : MemDesc)
    | .a32 v => { segment := g, base := none, index := none, scale := 1, disp := v.toNat, dispSize := 4, addrSize := .a32 }
    | .a64 v => { segment := g, base := none, index := none, scale := 1, disp := v.toNat, dispSize := 8, addrSize := .a64 }
  (∀ (s : State) (q : Request) (t : Txn) (p : LegacyPrefix) (m : ModRM) (a : Moffs), InTxn s q t →
    let x : Prefix := .legacy p
    let L := t.pos - q.start
    (p.lock = false → exec (.lea_r16_m p m) s = .next (done s (.ok (legacyRecord .Lea_r16_m p true L [regOpd .r16 x m, memOpd q.bitness x m .Unknown])))) ∧
    (p.lock = false → exec (.lea_r32_m p m) s = .next (done s (.ok (legacyRecord .Lea_r32_m p true L [regOpd .r32 x m, memOpd q.bitness x m .Unknown])))) ∧
    (p.lock = false → exec (.lea_r64_m p m) s = .next (done s (.ok (legacyRecord .Lea_r64_m p true L [regOpd .r64 x m, memOpd q.bitness x m .Unknown])))) ∧
    (p.lock = false → exec (.mov_AL_moffs8 p a) s = .next (done s (.ok (legacyRecord .Mov_AL_moffs8 p true L [.register (.r8 .AL), .memory (desc x a) .UInt8])))) ∧
    (p.lock = false → exec (.mov_AX_moffs16 p a) s = .next (done s (.ok (legacyRecord .Mov_AX_moffs16 p true L [.register (.r16 0), .memory (desc x a) .UInt16])))) ∧
    (p.lock = false → exec (.mov_EAX_moffs32 p a) s = .next (done s (.ok (legacyRecord .Mov_EAX_moffs32 p true L [.register (.r32 0), .memory (desc x a) .UInt32])))) ∧
    (p.lock = false → exec (.mov_RAX_moffs64 p a) s = .next (done s (.ok (legacyRecord .Mov_RAX_moffs64 p true L [.register (.r64 0), .memory (desc x a) .UInt64])))) ∧
    (p.lock = false → exec (.mov_moffs8_AL p a) s = .next (done s (.ok (legacyRecord .Mov_moffs8_AL p true L [.memory (desc x a) .UInt8, .register (.r8 .AL)])))) ∧
    (p.lock = false → exec (.mov_moffs16_AX p a) s = .next (done s (.ok (legacyRecord .Mov_moffs16_AX p true L [.memory (desc x a) .UInt16, .register (.r16 0)])))) ∧
    (p.lock = false → exec (.mov_moffs32_EAX p a) s = .next (done s (.ok (legacyRecord .Mov_moffs32_EAX p true L [.memory (desc x a) .UInt32, .register (.r32 0)])))) ∧
    (p.lock = false → exec (.mov_moffs64_RAX p a) s = .next (done s (.ok (legacyRecord .Mov_moffs64_RAX p true L [.memory (desc x a) .UInt64, .register (.r64 0)]))))) ∧
  (∀ (e : Env) (r : Row) (low : BitVec 3) (bs : List Byte) (z : MemorySize), r.mem = some z →
    shapeOperand e r low .moffs bs = .memory (desc e.pfx (Moffs.ofBytes bs)) z) ∧
  (∀ bs : List Byte, (bs.length = 2 → ∃ v, Moffs.ofBytes bs = .a16 v ∧ v.toNat = leNat bs) ∧
    (bs.length = 4 → ∃ v, Moffs.ofBytes bs = .a32 v ∧ v.toNat = leNat bs) ∧
    (bs.length = 8 → ∃ v, Moffs.ofBytes bs = .a64 v ∧ v.toNat = leNat bs)) ∧
  ∀ c ∈ [Code.Mov_AL_moffs8, .Mov_AX_moffs16, .Mov_EAX_moffs32, .Mov_RAX_moffs64, .Mov_moffs8_AL, .Mov_moffs16_AX, .Mov_moffs32_EAX, .Mov_moffs64_RAX],
    ∀ (q : Source) (t : Txn) (a : AddrSize) (bs : List Byte), (a, bs.length) ∈ [(AddrSize.a16, 2), (.a32, 4), (.a64, 8)] →
      t.pos + bs.length ≤ q.start + 15 → HoldsBytes q.buf t.pos bs →
      trailStage q a c.row t = .ok { t with pos := t.pos + bs.length, trail := bs }

/-- Records of the near branches (47_codes_legacy_onebyte_a.md, 47_codes_legacy_onebyte_c.md, 48_codes_legacy_0f.md, 44_operand_assembly.md section 1). -/
def Obligations.RecordsOfBranchRows : Prop :=
  ∀ (s : State) (q : Request) (t : Txn) (p : LegacyPrefix) (rel8 : BitVec 8) (rel16 : BitVec 16) (rel32 : BitVec 32), InTxn s q t →
    let L := t.pos - q.start
    (p.lock = false → exec (.je_rel8_16 p rel8) s = .next (done s (.ok (legacyRecord .Je_rel8_16 p true L [relOpd q.ip L rel8.toInt 16 1])))) ∧
    (p.lock = false → exec (.je_rel8_32 p rel8) s = .next (done s (.ok (legacyRecord .Je_rel8_32 p true L [relOpd q.ip L rel8.toInt 32 1])))) ∧
    (p.lock = false → exec (.je_rel8_64 p rel8) s = .next (done s (.ok (legacyRecord .Je_rel8_64 p true L [relOpd q.ip L rel8.toInt 64 1])))) ∧
    (p.lock = false → exec (.call_rel16 p rel16) s = .next (done s (.ok (legacyRecord .Call_rel16 p true L [relOpd q.ip L rel16.toInt 16 2])))) ∧
    (p.lock = false → exec (.call_rel32_32 p rel32) s = .next (done s (.ok (legacyRecord .Call_rel32_32 p true L [relOpd q.ip L rel32.toInt 32 4])))) ∧
    (p.lock = false → exec (.call_rel32_64 p rel32) s = .next (done s (.ok (legacyRecord .Call_rel32_64 p true L [relOpd q.ip L rel32.toInt 64 4])))) ∧
    (p.lock = false → exec (.jmp_rel16 p rel16) s = .next (done s (.ok (legacyRecord .Jmp_rel16 p true L [relOpd q.ip L rel16.toInt 16 2])))) ∧
    (p.lock = false → exec (.jmp_rel32_32 p rel32) s = .next (done s (.ok (legacyRecord .Jmp_rel32_32 p true L [relOpd q.ip L rel32.toInt 32 4])))) ∧
    (p.lock = false → exec (.jmp_rel32_64 p rel32) s = .next (done s (.ok (legacyRecord .Jmp_rel32_64 p true L [relOpd q.ip L rel32.toInt 64 4])))) ∧
    (p.lock = false → exec (.jmp_rel8_16 p rel8) s = .next (done s (.ok (legacyRecord .Jmp_rel8_16 p true L [relOpd q.ip L rel8.toInt 16 1])))) ∧
    (p.lock = false → exec (.jmp_rel8_32 p rel8) s = .next (done s (.ok (legacyRecord .Jmp_rel8_32 p true L [relOpd q.ip L rel8.toInt 32 1])))) ∧
    (p.lock = false → exec (.jmp_rel8_64 p rel8) s = .next (done s (.ok (legacyRecord .Jmp_rel8_64 p true L [relOpd q.ip L rel8.toInt 64 1])))) ∧
    (p.lock = false → exec (.je_rel16 p rel16) s = .next (done s (.ok (legacyRecord .Je_rel16 p true L [relOpd q.ip L rel16.toInt 16 2])))) ∧
    (p.lock = false → exec (.je_rel32_32 p rel32) s = .next (done s (.ok (legacyRecord .Je_rel32_32 p true L [relOpd q.ip L rel32.toInt 32 4])))) ∧
    (p.lock = false → exec (.je_rel32_64 p rel32) s = .next (done s (.ok (legacyRecord .Je_rel32_64 p true L [relOpd q.ip L rel32.toInt 64 4]))))

/-- Records of Daa, Int3, Hlt, Syscall and the fences (47_codes_legacy_onebyte_a.md, 47_codes_legacy_onebyte_c.md, 48_codes_legacy_0f.md). -/
def Obligations.RecordsOfOperandlessRows : Prop :=
  ∀ (s : State) (q : Request) (t : Txn) (p : LegacyPrefix) (m : ModRM), InTxn s q t →
    let L := t.pos - q.start
    (p.lock = false → exec (.daa p) s = .next (done s (.ok (legacyRecord .Daa p true L [])))) ∧
    (p.lock = false → exec (.int3 p) s = .next (done s (.ok (legacyRecord .Int3 p true L [])))) ∧
    (p.lock = false → exec (.hlt p) s = .next (done s (.ok (legacyRecord .Hlt p true L [])))) ∧
    (p.lock = false → exec (.syscall p) s = .next (done s (.ok (legacyRecord .Syscall p true L [])))) ∧
    (p.lock = false → exec (.lfence p m) s = .next (done s (.ok (legacyRecord .Lfence p false L [])))) ∧
    (p.lock = false → exec (.mfence p m) s = .next (done s (.ok (legacyRecord .Mfence p false L [])))) ∧
    (p.lock = false → exec (.sfence p m) s = .next (done s (.ok (legacyRecord .Sfence p false L []))))

/-- Records of Bound, Les, Lds, Fxsave, Fxrstor, Ldmxcsr, Stmxcsr, Clflush (47_codes_legacy_onebyte_a.md, 47_codes_legacy_onebyte_c.md, 48_codes_legacy_0f.md). -/
def Obligations.RecordsOfMemoryOnlyRows : Prop :=
  ∀ (s : State) (q : Request) (t : Txn) (p : LegacyPrefix) (m : ModRM), InTxn s q t →
    let x : Prefix := .legacy p
    let L := t.pos - q.start
    (p.lock = false → exec (.bound_r16_m1616 p m) s = .next (done s (.ok (legacyRecord .Bound_r16_m1616 p true L [regOpd .r16 x m, memOpd q.bitness x m .Bound16_WordWord])))) ∧
    (p.lock = false → exec (.bound_r32_m3232 p m) s = .next (done s (.ok (legacyRecord .Bound_r32_m3232 p true L [regOpd .r32 x m, memOpd q.bitness x m .Bound32_DwordDword])))) ∧
    (p.lock = false → exec (.les_r16_m1616 p m) s = .next (done s (.ok (legacyRecord .Les_r16_m1616 p true L [regOpd .r16 x m, memOpd q.bitness x m .SegPtr16])))) ∧
    (p.lock = false → exec (.les_r32_m1632 p m) s = .next (done s (.ok (legacyRecord .Les_r32_m1632 p true L [regOpd .r32 x m, memOpd q.bitness x m .SegPtr32])))) ∧
    (p.lock = false → exec (.lds_r16_m1616 p m) s = .next (done s (.ok (legacyRecord .Lds_r16_m1616 p true L [regOpd .r16 x m, memOpd q.bitness x m .SegPtr16])))) ∧
    (p.lock = false → exec (.lds_r32_m1632 p m) s = .next (done s (.ok (legacyRecord .Lds_r32_m1632 p true L [regOpd .r32 x m, memOpd q.bitness x m .SegPtr32])))) ∧
    (p.lock = false → exec (.fxsave_m512byte p m) s = .next (done s (.ok (legacyRecord .Fxsave_m512byte p false L [memOpd q.bitness x m .Fxsave_512Byte])))) ∧
    (p.lock = false → exec (.fxsave64_m512byte p m) s = .next (done s (.ok (legacyRecord .Fxsave64_m512byte p false L [memOpd q.bitness x m .Fxsave64_512Byte])))) ∧
    (p.lock = false → exec (.fxrstor_m512byte p m) s = .next (done s (.ok (legacyRecord .Fxrstor_m512byte p false L [memOpd q.bitness x m .Fxsave_512Byte])))) ∧
    (p.lock = false → exec (.fxrstor64_m512byte p m) s = .next (done s (.ok (legacyRecord .Fxrstor64_m512byte p false L [memOpd q.bitness x m .Fxsave64_512Byte])))) ∧
    (p.lock = false → exec (.ldmxcsr_m32 p m) s = .next (done s (.ok (legacyRecord .Ldmxcsr_m32 p false L [memOpd q.bitness x m .UInt32])))) ∧
    (p.lock = false → exec (.stmxcsr_m32 p m) s = .next (done s (.ok (legacyRecord .Stmxcsr_m32 p false L [memOpd q.bitness x m .UInt32])))) ∧
    (p.lock = false → exec (.clflush_m8 p m) s = .next (done s (.ok (legacyRecord .Clflush_m8 p false L [memOpd q.bitness x m .UInt8]))))

/-- Records of the MMX and SSE rows (48_codes_legacy_0f.md). -/
def Obligations.RecordsOfMmxAndSseRows : Prop :=
  ∀ (s : State) (q : Request) (t : Txn) (p : LegacyPrefix) (m : ModRM), InTxn s q t →
    let x : Prefix := .legacy p
    let L := t.pos - q.start
    (p.lock = false → exec (.addps_xmm_xmmm128 p m) s = .next (done s (.ok (legacyRecord .Addps_xmm_xmmm128 p false L [regOpd .xmm x m, rmOpd q.bitness .xmm x 1 m .Packed128_Float32])))) ∧
    (p.lock = false → exec (.addpd_xmm_xmmm128 p m) s = .next (done s (.ok (legacyRecord .Addpd_xmm_xmmm128 p false L [regOpd .xmm x m, rmOpd q.bitness .xmm x 1 m .Packed128_Float64])))) ∧
    (p.lock = false → exec (.addss_xmm_xmmm32 p m) s = .next (done s (.ok (legacyRecord .Addss_xmm_xmmm32 p false L [regOpd .xmm x m, rmOpd q.bitness .xmm x 1 m .Float32])))) ∧
    (p.lock = false → exec (.addsd_xmm_xmmm64 p m) s = .next (done s (.ok (legacyRecord .Addsd_xmm_xmmm64 p false L [regOpd .xmm x m, rmOpd q.bitness .xmm x 1 m .Float64])))) ∧
    (p.lock = false → exec (.punpcklbw_mm_mmm32 p m) s = .next (done s (.ok (legacyRecord .Punpcklbw_mm_mmm32 p false L [regOpd .mm x m, rmOpd q.bitness .mm x 1 m .Packed32_Int8])))) ∧
    (p.lock = false → exec (.punpcklbw_xmm_xmmm128 p m) s = .next (done s (.ok (legacyRecord .Punpcklbw_xmm_xmmm128 p false L [regOpd .xmm x m, rmOpd q.bitness .xmm x 1 m .Packed128_Int8])))) ∧
    (p.lock = false → exec (.punpcklwd_mm_mmm32 p m) s = .next (done s (.ok (legacyRecord .Punpcklwd_mm_mmm32 p false L [regOpd .mm x m, rmOpd q.bitness .mm x 1 m .Packed32_Int16])))) ∧
    (p.lock = false → exec (.punpcklwd_xmm_xmmm128 p m) s = .next (done s (.ok (legacyRecord .Punpcklwd_xmm_xmmm128 p false L [regOpd .xmm x m, rmOpd q.bitness .xmm x 1 m .Packed128_Int16])))) ∧
    (p.lock = false → exec (.punpckldq_mm_mmm32 p m) s = .next (done s (.ok (legacyRecord .Punpckldq_mm_mmm32 p false L [regOpd .mm x m, rmOpd q.bitness .mm x 1 m .Int32])))) ∧
    (p.lock = false → exec (.punpckldq_xmm_xmmm128 p m) s = .next (done s (.ok (legacyRecord .Punpckldq_xmm_xmmm128 p false L [regOpd .xmm x m, rmOpd q.bitness .xmm x 1 m .Packed128_Int32])))) ∧
    (p.lock = false → exec (.packsswb_mm_mmm64 p m) s = .next (done s (.ok (legacyRecord .Packsswb_mm_mmm64 p false L [regOpd .mm x m, rmOpd q.bitness .mm x 1 m .Packed64_Int16])))) ∧
    (p.lock = false → exec (.packsswb_xmm_xmmm128 p m) s = .next (done s (.ok (legacyRecord .Packsswb_xmm_xmmm128 p false L [regOpd .xmm x m, rmOpd q.bitness .xmm x 1 m .Packed128_Int16])))) ∧
    (p.lock = false → exec (.pcmpgtb_mm_mmm64 p m) s = .next (done s (.ok (legacyRecord .Pcmpgtb_mm_mmm64 p false L [regOpd .mm x m, rmOpd q.bitness .mm x 1 m .Packed64_Int8])))) ∧
    (p.lock = false → exec (.pcmpgtb_xmm_xmmm128 p m) s = .next (done s (.ok (legacyRecord .Pcmpgtb_xmm_xmmm128 p false L [regOpd .xmm x m, rmOpd q.bitness .xmm x 1 m .Packed128_Int8])))) ∧
    (p.lock = false → exec (.pcmpgtw_mm_mmm64 p m) s = .next (done s (.ok (legacyRecord .Pcmpgtw_mm_mmm64 p false L [regOpd .mm x m, rmOpd q.bitness .mm x 1 m .Packed64_Int16])))) ∧
    (p.lock = false → exec (.pcmpgtw_xmm_xmmm128 p m) s = .next (done s (.ok (legacyRecord .Pcmpgtw_xmm_xmmm128 p false L [regOpd .xmm x m, rmOpd q.bitness .xmm x 1 m .Packed128_Int16])))) ∧
    (p.lock = false → exec (.pcmpgtd_mm_mmm64 p m) s = .next (done s (.ok (legacyRecord .Pcmpgtd_mm_mmm64 p false L [regOpd .mm x m, rmOpd q.bitness .mm x 1 m .Packed64_Int32])))) ∧
    (p.lock = false → exec (.pcmpgtd_xmm_xmmm128 p m) s = .next (done s (.ok (legacyRecord .Pcmpgtd_xmm_xmmm128 p false L [regOpd .xmm x m, rmOpd q.bitness .xmm x 1 m .Packed128_Int32])))) ∧
    (p.lock = false → exec (.packuswb_mm_mmm64 p m) s = .next (done s (.ok (legacyRecord .Packuswb_mm_mmm64 p false L [regOpd .mm x m, rmOpd q.bitness .mm x 1 m .Packed64_Int16])))) ∧
    (p.lock = false → exec (.packuswb_xmm_xmmm128 p m) s = .next (done s (.ok (legacyRecord .Packuswb_xmm_xmmm128 p false L [regOpd .xmm x m, rmOpd q.bitness .xmm x 1 m .Packed128_Int16])))) ∧
    (p.lock = false → exec (.movd_mm_rm32 p m) s = .next (done s (.ok (legacyRecord .Movd_mm_rm32 p false L [regOpd .mm x m, rmOpd q.bitness .r32 x 1 m .UInt32])))) ∧
    (p.lock = false → exec (.movq_mm_rm64 p m) s = .next (done s (.ok (legacyRecord .Movq_mm_rm64 p false L [regOpd .mm x m, rmOpd q.bitness .r64 x 1 m .UInt64])))) ∧
    (p.lock = false → exec (.movd_xmm_rm32 p m) s = .next (done s (.ok (legacyRecord .Movd_xmm_rm32 p false L [regOpd .xmm x m, rmOpd q.bitness .r32 x 1 m .UInt32])))) ∧
    (p.lock = false → exec (.movq_xmm_rm64 p m) s = .next (done s (.ok (legacyRecord .Movq_xmm_rm64 p false L [regOpd .xmm x m, rmOpd q.bitness .r64 x 1 m .UInt64]))))

/-- Records of the VEX rows (48_codes_vex.md, 45_vector_extension.md). -/
def Obligations.RecordsOfVexRows : Prop :=
  ∀ (s : State) (q : Request) (t : Txn) (p : VexPrefix) (m : ModRM), InTxn s q t →
    let x : Prefix := .vex p
    let L := t.pos - q.start
    (p.lock = false → exec (.vex_vaddps_xmm_xmm_xmmm128 p m) s = .next (done s (.ok (vexRecord .VEX_Vaddps_xmm_xmm_xmmm128 p L [regOpd .xmm x m, vvvvOpd .xmm x, rmOpd q.bitness .xmm x 1 m .Packed128_Float32])))) ∧
    (p.lock = false → exec (.vex_vaddps_ymm_ymm_ymmm256 p m) s = .next (done s (.ok (vexRecord .VEX_Vaddps_ymm_ymm_ymmm256 p L [regOpd .ymm x m, vvvvOpd .ymm x, rmOpd q.bitness .ymm x 1 m .Packed256_Float32])))) ∧
    (p.lock = false → exec (.vex_vaddpd_xmm_xmm_xmmm128 p m) s = .next (done s (.ok (vexRecord .VEX_Vaddpd_xmm_xmm_xmmm128 p L [regOpd .xmm x m, vvvvOpd .xmm x, rmOpd q.bitness .xmm x 1 m .Packed128_Float64])))) ∧
    (p.lock = false → exec (.vex_vaddpd_ymm_ymm_ymmm256 p m) s = .next (done s (.ok (vexRecord .VEX_Vaddpd_ymm_ymm_ymmm256 p L [regOpd .ymm x m, vvvvOpd .ymm x, rmOpd q.bitness .ymm x 1 m .Packed256_Float64])))) ∧
    (p.lock = false → exec (.vex_vaddss_xmm_xmm_xmmm32 p m) s = .next (done s (.ok (vexRecord .VEX_Vaddss_xmm_xmm_xmmm32 p L [regOpd .xmm x m, vvvvOpd .xmm x, rmOpd q.bitness .xmm x 1 m .Float32])))) ∧
    (p.lock = false → exec (.vex_vaddsd_xmm_xmm_xmmm64 p m) s = .next (done s (.ok (vexRecord .VEX_Vaddsd_xmm_xmm_xmmm64 p L [regOpd .xmm x m, vvvvOpd .xmm x, rmOpd q.bitness .xmm x 1 m .Float64])))) ∧
    (p.lock = false → exec (.vex_vpunpcklbw_xmm_xmm_xmmm128 p m) s = .next (done s (.ok (vexRecord .VEX_Vpunpcklbw_xmm_xmm_xmmm128 p L [regOpd .xmm x m, vvvvOpd .xmm x, rmOpd q.bitness .xmm x 1 m .Packed128_Int8])))) ∧
    (p.lock = false → exec (.vex_vpunpcklbw_ymm_ymm_ymmm256 p m) s = .next (done s (.ok (vexRecord .VEX_Vpunpcklbw_ymm_ymm_ymmm256 p L [regOpd .ymm x m, vvvvOpd .ymm x, rmOpd q.bitness .ymm x 1 m .Packed256_Int8])))) ∧
    (p.lock = false → exec (.vex_vpunpcklwd_xmm_xmm_xmmm128 p m) s = .next (done s (.ok (vexRecord .VEX_Vpunpcklwd_xmm_xmm_xmmm128 p L [regOpd .xmm x m, vvvvOpd .xmm x, rmOpd q.bitness .xmm x 1 m .Packed128_Int16])))) ∧
    (p.lock = false → exec (.vex_vpunpcklwd_ymm_ymm_ymmm256 p m) s = .next (done s (.ok (vexRecord .VEX_Vpunpcklwd_ymm_ymm_ymmm256 p L [regOpd .ymm x m, vvvvOpd .ymm x, rmOpd q.bitness .ymm x 1 m .Packed256_Int16])))) ∧
    (p.lock = false → exec (.vex_vpunpckldq_xmm_xmm_xmmm128 p m) s = .next (done s (.ok (vexRecord .VEX_Vpunpckldq_xmm_xmm_xmmm128 p L [regOpd .xmm x m, vvvvOpd .xmm x, rmOpd q.bitness .xmm x 1 m .Packed128_Int32])))) ∧
    (p.lock = false → exec (.vex_vpunpckldq_ymm_ymm_ymmm256 p m) s = .next (done s (.ok (vexRecord .VEX_Vpunpckldq_ymm_ymm_ymmm256 p L [regOpd .ymm x m, vvvvOpd .ymm x, rmOpd q.bitness .ymm x 1 m .Packed256_Int32])))) ∧
    (p.lock = false → exec (.vex_vpacksswb_xmm_xmm_xmmm128 p m) s = .next (done s (.ok (vexRecord .VEX_Vpacksswb_xmm_xmm_xmmm128 p L [regOpd .xmm x m, vvvvOpd .xmm x, rmOpd q.bitness .xmm x 1 m .Packed128_Int16])))) ∧
    (p.lock = false → exec (.vex_vpacksswb_ymm_ymm_ymmm256 p m) s = .next (done s (.ok (vexRecord .VEX_Vpacksswb_ymm_ymm_ymmm256 p L [regOpd .ymm x m, vvvvOpd .ymm x, rmOpd q.bitness .ymm x 1 m .Packed256_Int16])))) ∧
    (p.lock = false → exec (.vex_vpcmpgtb_xmm_xmm_xmmm128 p m) s = .next (done s (.ok (vexRecord .VEX_Vpcmpgtb_xmm_xmm_xmmm128 p L [regOpd .xmm x m, vvvvOpd .xmm x, rmOpd q.bitness .xmm x 1 m .Packed128_Int8])))) ∧
    (p.lock = false → exec (.vex_vpcmpgtb_ymm_ymm_ymmm256 p m) s = .next (done s (.ok (vexRecord .VEX_Vpcmpgtb_ymm_ymm_ymmm256 p L [regOpd .ymm x m, vvvvOpd .ymm x, rmOpd q.bitness .ymm x 1 m .Packed256_Int8])))) ∧
    (p.lock = false → exec (.vex_vpcmpgtw_xmm_xmm_xmmm128 p m) s = .next (done s (.ok (vexRecord .VEX_Vpcmpgtw_xmm_xmm_xmmm128 p L [regOpd .xmm x m, vvvvOpd .xmm x, rmOpd q.bitness .xmm x 1 m .Packed128_Int16])))) ∧
    (p.lock = false → exec (.vex_vpcmpgtw_ymm_ymm_ymmm256 p m) s = .next (done s (.ok (vexRecord .VEX_Vpcmpgtw_ymm_ymm_ymmm256 p L [regOpd .ymm x m, vvvvOpd .ymm x, rmOpd q.bitness .ymm x 1 m .Packed256_Int16])))) ∧
    (p.lock = false → exec (.vex_vpcmpgtd_xmm_xmm_xmmm128 p m) s = .next (done s (.ok (vexRecord .VEX_Vpcmpgtd_xmm_xmm_xmmm128 p L [regOpd .xmm x m, vvvvOpd .xmm x, rmOpd q.bitness .xmm x 1 m .Packed128_Int32])))) ∧
    (p.lock = false → exec (.vex_vpcmpgtd_ymm_ymm_ymmm256 p m) s = .next (done s (.ok (vexRecord .VEX_Vpcmpgtd_ymm_ymm_ymmm256 p L [regOpd .ymm x m, vvvvOpd .ymm x, rmOpd q.bitness .ymm x 1 m .Packed256_Int32])))) ∧
    (p.lock = false → exec (.vex_vpackuswb_xmm_xmm_xmmm128 p m) s = .next (done s (.ok (vexRecord .VEX_Vpackuswb_xmm_xmm_xmmm128 p L [regOpd .xmm x m, vvvvOpd .xmm x, rmOpd q.bitness .xmm x 1 m .Packed128_Int16])))) ∧
    (p.lock = false → exec (.vex_vpackuswb_ymm_ymm_ymmm256 p m) s = .next (done s (.ok (vexRecord .VEX_Vpackuswb_ymm_ymm_ymmm256 p L [regOpd .ymm x m, vvvvOpd .ymm x, rmOpd q.bitness .ymm x 1 m .Packed256_Int16]))))

/-- Records of the EVEX rows that permit broadcast, rounding or SAE (49_codes_evex_a.md, 49_codes_evex_b.md, 45_vector_extension.md). -/
def Obligations.RecordsOfEvexBroadcastAndRoundingRows : Prop :=
  ∀ (s : State) (q : Request) (t : Txn) (p : EvexPrefix) (m : ModRM), InTxn s q t →
    let x : Prefix := .evex p
    let L := t.pos - q.start
    (p.lock = false → exec (.evex_vaddps_xmm_k1z_xmm_xmmm128b32 p m) s = .next (done s (.ok (evexRecord .EVEX_Vaddps_xmm_k1z_xmm_xmmm128b32 p L [regOpd .xmm x m, vvvvOpd .xmm x, rmOpd q.bitness .xmm x (bcstFactor p m 16 4) m (bcstSize p m .Packed128_Float32 .Broadcast128_Float32)] (evexRounding .none p m) (evexSae s.params .none p m))))) ∧
    (p.lock = false → exec (.evex_vaddps_ymm_k1z_ymm_ymmm256b32 p m) s = .next (done s (.ok (evexRecord .EVEX_Vaddps_ymm_k1z_ymm_ymmm256b32 p L [regOpd .ymm x m, vvvvOpd .ymm x, rmOpd q.bitness .ymm x (bcstFactor p m 32 4) m (bcstSize p m .Packed256_Float32 .Broadcast256_Float32)] (evexRounding .none p m) (evexSae s.params .none p m))))) ∧
    (p.lock = false → exec (.evex_vaddps_zmm_k1z_zmm_zmmm512b32_er p m) s = .next (done s (.ok (evexRecord .EVEX_Vaddps_zmm_k1z_zmm_zmmm512b32_er p L [regOpd .zmm x m, vvvvOpd .zmm x, rmOpd q.bitness .zmm x (bcstFactor p m 64 4) m (bcstSize p m .Packed512_Float32 .Broadcast512_Float32)] (evexRounding .er p m) (evexSae s.params .er p m))))) ∧
    (p.lock = false → exec (.evex_vaddpd_xmm_k1z_xmm_xmmm128b64 p m) s = .next (done s (.ok (evexRecord .EVEX_Vaddpd_xmm_k1z_xmm_xmmm128b64 p L [regOpd .xmm x m, vvvvOpd .xmm x, rmOpd q.bitness .xmm x (bcstFactor p m 16 8) m (bcstSize p m .Packed128_Float64 .Broadcast128_Float64)] (evexRounding .none p m) (evexSae s.params .none p m))))) ∧
    (p.lock = false → exec (.evex_vaddpd_ymm_k1z_ymm_ymmm256b64 p m) s = .next (done s (.ok (evexRecord .EVEX_Vaddpd_ymm_k1z_ymm_ymmm256b64 p L [regOpd .ymm x m, vvvvOpd .ymm x, rmOpd q.bitness .ymm x (bcstFactor p m 32 8) m (bcstSize p m .Packed256_Float64 .Broadcast256_Float64)] (evexRounding .none p m) (evexSae s.params .none p m))))) ∧
    (p.lock = false → exec (.evex_vaddpd_zmm_k1z_zmm_zmmm512b64_er p m) s = .next (done s (.ok (evexRecord .EVEX_Vaddpd_zmm_k1z_zmm_zmmm512b64_er p L [regOpd .zmm x m, vvvvOpd .zmm x, rmOpd q.bitness .zmm x (bcstFactor p m 64 8) m (bcstSize p m .Packed512_Float64 .Broadcast512_Float64)] (evexRounding .er p m) (evexSae s.params .er p m))))) ∧
    (p.lock = false → exec (.evex_vaddss_xmm_k1z_xmm_xmmm32_er p m) s = .next (done s (.ok (evexRecord .EVEX_Vaddss_xmm_k1z_xmm_xmmm32_er p L [regOpd .xmm x m, vvvvOpd .xmm x, rmOpd q.bitness .xmm x (bcstFactor p m 4 0) m .Float32] (evexRounding .er p m) (evexSae s.params .er p m))))) ∧
    (p.lock = false → exec (.evex_vaddsd_xmm_k1z_xmm_xmmm64_er p m) s = .next (done s (.ok (evexRecord .EVEX_Vaddsd_xmm_k1z_xmm_xmmm64_er p L [regOpd .xmm x m, vvvvOpd .xmm x, rmOpd q.bitness .xmm x (bcstFactor p m 8 0) m .Float64] (evexRounding .er p m) (evexSae s.params .er p m))))) ∧
    (p.lock = false → exec (.evex_vmaxps_xmm_k1z_xmm_xmmm128b32 p m) s = .next (done s (.ok (evexRecord .EVEX_Vmaxps_xmm_k1z_xmm_xmmm128b32 p L [regOpd .xmm x m, vvvvOpd .xmm x, rmOpd q.bitness .xmm x (bcstFactor p m 16 4) m (bcstSize p m .Packed128_Float32 .Broadcast128_Float32)] (evexRounding .none p m) (evexSae s.params .none p m))))) ∧
    (p.lock = false → exec (.evex_vmaxps_ymm_k1z_ymm_ymmm256b32 p m) s = .next (done s (.ok (evexRecord .EVEX_Vmaxps_ymm_k1z_ymm_ymmm256b32 p L [regOpd .ymm x m, vvvvOpd .ymm x, rmOpd q.bitness .ymm x (bcstFactor p m 32 4) m (bcstSize p m .Packed256_Float32 .Broadcast256_Float32)] (evexRounding .none p m) (evexSae s.params .none p m))))) ∧
    (p.lock = false → exec (.evex_vmaxps_zmm_k1z_zmm_zmmm512b32_sae p m) s = .next (done s (.ok (evexRecord .EVEX_Vmaxps_zmm_k1z_zmm_zmmm512b32_sae p L [regOpd .zmm x m, vvvvOpd .zmm x, rmOpd q.bitness .zmm x (bcstFactor p m 64 4) m (bcstSize p m .Packed512_Float32 .Broadcast512_Float32)] (evexRounding .sae p m) (evexSae s.params .sae p m))))) ∧
    (p.lock = false → exec (.evex_vpunpckldq_xmm_k1z_xmm_xmmm128b32 p m) s = .next (done s (.ok (evexRecord .EVEX_Vpunpckldq_xmm_k1z_xmm_xmmm128b32 p L [regOpd .xmm x m, vvvvOpd .xmm x, rmOpd q.bitness .xmm x (bcstFactor p m 16 4) m (bcstSize p m .Packed128_Int32 .Broadcast128_Int32)] (evexRounding .none p m) (evexSae s.params .none p m))))) ∧
    (p.lock = false → exec (.evex_vpunpckldq_ymm_k1z_ymm_ymmm256b32 p m) s = .next (done s (.ok (evexRecord .EVEX_Vpunpckldq_ymm_k1z_ymm_ymmm256b32 p L [regOpd .ymm x m, vvvvOpd .ymm x, rmOpd q.bitness .ymm x (bcstFactor p m 32 4) m (bcstSize p m .Packed256_Int32 .Broadcast256_Int32)] (evexRounding .none p m) (evexSae s.params .none p m))))) ∧
    (p.lock = false → exec (.evex_vpunpckldq_zmm_k1z_zmm_zmmm512b32 p m) s = .next (done s (.ok (evexRecord .EVEX_Vpunpckldq_zmm_k1z_zmm_zmmm512b32 p L [regOpd .zmm x m, vvvvOpd .zmm x, rmOpd q.bitness .zmm x (bcstFactor p m 64 4) m (bcstSize p m .Packed512_Int32 .Broadcast512_Int32)] (evexRounding .none p m) (evexSae s.params .none p m))))) ∧
    (p.lock = false → exec (.evex_vpcmpgtd_k_k1_xmm_xmmm128b32 p m) s = .next (done s (.ok (evexRecord .EVEX_Vpcmpgtd_k_k1_xmm_xmmm128b32 p L [regOpd .k x m, vvvvOpd .xmm x, rmOpd q.bitness .xmm x (bcstFactor p m 16 4) m (bcstSize p m .Packed128_Int32 .Broadcast128_Int32)] (evexRounding .none p m) (evexSae s.params .none p m))))) ∧
    (p.lock = false → exec (.evex_vpcmpgtd_k_k1_ymm_ymmm256b32 p m) s = .next (done s (.ok (evexRecord .EVEX_Vpcmpgtd_k_k1_ymm_ymmm256b32 p L [regOpd .k x m, vvvvOpd .ymm x, rmOpd q.bitness .ymm x (bcstFactor p m 32 4) m (bcstSize p m .Packed256_Int32 .Broadcast256_Int32)] (evexRounding .none p m) (evexSae s.params .none p m))))) ∧
    (p.lock = false → exec (.evex_vpcmpgtd_k_k1_zmm_zmmm512b32 p m) s = .next (done s (.ok (evexRecord .EVEX_Vpcmpgtd_k_k1_zmm_zmmm512b32 p L [regOpd .k x m, vvvvOpd .zmm x, rmOpd q.bitness .zmm x (bcstFactor p m 64 4) m (bcstSize p m .Packed512_Int32 .Broadcast512_Int32)] (evexRounding .none p m) (evexSae s.params .none p m)))))

/-- Records of the EVEX rows without broadcast or rounding (49_codes_evex_a.md, 49_codes_evex_b.md, 45_vector_extension.md). -/
def Obligations.RecordsOfOtherEvexRows : Prop :=
  ∀ (s : State) (q : Request) (t : Txn) (p : EvexPrefix) (m : ModRM), InTxn s q t →
    let x : Prefix := .evex p
    let L := t.pos - q.start
    (p.lock = false → exec (.evex_vpunpcklbw_xmm_k1z_xmm_xmmm128 p m) s = .next (done s (.ok (evexRecord .EVEX_Vpunpcklbw_xmm_k1z_xmm_xmmm128 p L [regOpd .xmm x m, vvvvOpd .xmm x, rmOpd q.bitness .xmm x (bcstFactor p m 16 0) m .Packed128_Int8] (evexRounding .none p m) (evexSae s.params .none p m))))) ∧
    (p.lock = false → exec (.evex_vpunpcklbw_ymm_k1z_ymm_ymmm256 p m) s = .next (done s (.ok (evexRecord .EVEX_Vpunpcklbw_ymm_k1z_ymm_ymmm256 p L [regOpd .ymm x m, vvvvOpd .ymm x, rmOpd q.bitness .ymm x (bcstFactor p m 32 0) m .Packed256_Int8] (evexRounding .none p m) (evexSae s.params .none p m))))) ∧
    (p.lock = false → exec (.evex_vpunpcklbw_zmm_k1z_zmm_zmmm512 p m) s = .next (done s (.ok (evexRecord .EVEX_Vpunpcklbw_zmm_k1z_zmm_zmmm512 p L [regOpd .zmm x m, vvvvOpd .zmm x, rmOpd q.bitness .zmm x (bcstFactor p m 64 0) m .Packed512_Int8] (evexRounding .none p m) (evexSae s.params .none p m))))) ∧
    (p.lock = false → exec (.evex_vpunpcklwd_xmm_k1z_xmm_xmmm128 p m) s = .next (done s (.ok (evexRecord .EVEX_Vpunpcklwd_xmm_k1z_xmm_xmmm128 p L [regOpd .xmm x m, vvvvOpd .xmm x, rmOpd q.bitness .xmm x (bcstFactor p m 16 0) m .Packed128_Int16] (evexRounding .none p m) (evexSae s.params .none p m))))) ∧
    (p.lock = false → exec (.evex_vpunpcklwd_ymm_k1z_ymm_ymmm256 p m) s = .next (done s (.ok (evexRecord .EVEX_Vpunpcklwd_ymm_k1z_ymm_ymmm256 p L [regOpd .ymm x m, vvvvOpd .ymm x, rmOpd q.bitness .ymm x (bcstFactor p m 32 0) m .Packed256_Int16] (evexRounding .none p m) (evexSae s.params .none p m))))) ∧
    (p.lock = false → exec (.evex_vpunpcklwd_zmm_k1z_zmm_zmmm512 p m) s = .next (done s (.ok (evexRecord .EVEX_Vpunpcklwd_zmm_k1z_zmm_zmmm512 p L [regOpd .zmm x m, vvvvOpd .zmm x, rmOpd q.bitness .zmm x (bcstFactor p m 64 0) m .Packed512_Int16] (evexRounding .none p m) (evexSae s.params .none p m))))) ∧
    (p.lock = false → exec (.evex_vpacksswb_xmm_k1z_xmm_xmmm128 p m) s = .next (done s (.ok (evexRecord .EVEX_Vpacksswb_xmm_k1z_xmm_xmmm128 p L [regOpd .xmm x m, vvvvOpd .xmm x, rmOpd q.bitness .xmm x (bcstFactor p m 16 0) m .Packed128_Int16] (evexRounding .none p m) (evexSae s.params .none p m))))) ∧
    (p.lock = false → exec (.evex_vpacksswb_ymm_k1z_ymm_ymmm256 p m) s = .next (done s (.ok (evexRecord .EVEX_Vpacksswb_ymm_k1z_ymm_ymmm256 p L [regOpd .ymm x m, vvvvOpd .ymm x, rmOpd q.bitness .ymm x (bcstFactor p m 32 0) m .Packed256_Int16] (evexRounding .none p m) (evexSae s.params .none p m))))) ∧
    (p.lock = false → exec (.evex_vpacksswb_zmm_k1z_zmm_zmmm512 p m) s = .next (done s (.ok (evexRecord .EVEX_Vpacksswb_zmm_k1z_zmm_zmmm512 p L [regOpd .zmm x m, vvvvOpd .zmm x, rmOpd q.bitness .zmm x (bcstFactor p m 64 0) m .Packed512_Int16] (evexRounding .none p m) (evexSae s.params .none p m))))) ∧
    (p.lock = false → exec (.evex_vpcmpgtb_k_k1_xmm_xmmm128 p m) s = .next (done s (.ok (evexRecord .EVEX_Vpcmpgtb_k_k1_xmm_xmmm128 p L [regOpd .k x m, vvvvOpd .xmm x, rmOpd q.bitness .xmm x (bcstFactor p m 16 0) m .Packed128_Int8] (evexRounding .none p m) (evexSae s.params .none p m))))) ∧
    (p.lock = false → exec (.evex_vpcmpgtb_k_k1_ymm_ymmm256 p m) s = .next (done s (.ok (evexRecord .EVEX_Vpcmpgtb_k_k1_ymm_ymmm256 p L [regOpd .k x m, vvvvOpd .ymm x, rmOpd q.bitness .ymm x (bcstFactor p m 32 0) m .Packed256_Int8] (evexRounding .none p m) (evexSae s.params .none p m))))) ∧
    (p.lock = false → exec (.evex_vpcmpgtb_k_k1_zmm_zmmm512 p m) s = .next (done s (.ok (evexRecord .EVEX_Vpcmpgtb_k_k1_zmm_zmmm512 p L [regOpd .k x m, vvvvOpd .zmm x, rmOpd q.bitness .zmm x (bcstFactor p m 64 0) m .Packed512_Int8] (evexRounding .none p m) (evexSae s.params .none p m))))) ∧
    (p.lock = false → exec (.evex_vpcmpgtw_k_k1_xmm_xmmm128 p m) s = .next (done s (.ok (evexRecord .EVEX_Vpcmpgtw_k_k1_xmm_xmmm128 p L [regOpd .k x m, vvvvOpd .xmm x, rmOpd q.bitness .xmm x (bcstFactor p m 16 0) m .Packed128_Int16] (evexRounding .none p m) (evexSae s.params .none p m))))) ∧
    (p.lock = false → exec (.evex_vpcmpgtw_k_k1_ymm_ymmm256 p m) s = .next (done s (.ok (evexRecord .EVEX_Vpcmpgtw_k_k1_ymm_ymmm256 p L [regOpd .k x m, vvvvOpd .ymm x, rmOpd q.bitness .ymm x (bcstFactor p m 32 0) m .Packed256_Int16] (evexRounding .none p m) (evexSae s.params .none p m))))) ∧
    (p.lock = false → exec (.evex_vpcmpgtw_k_k1_zmm_zmmm512 p m) s = .next (done s (.ok (evexRecord .EVEX_Vpcmpgtw_k_k1_zmm_zmmm512 p L [regOpd .k x m, vvvvOpd .zmm x, rmOpd q.bitness .zmm x (bcstFactor p m 64 0) m .Packed512_Int16] (evexRounding .none p m) (evexSae s.params .none p m))))) ∧
    (p.lock = false → exec (.evex_vpackuswb_xmm_k1z_xmm_xmmm128 p m) s = .next (done s (.ok (evexRecord .EVEX_Vpackuswb_xmm_k1z_xmm_xmmm128 p L [regOpd .xmm x m, vvvvOpd .xmm x, rmOpd q.bitness .xmm x (bcstFactor p m 16 0) m .Packed128_Int16] (evexRounding .none p m) (evexSae s.params .none p m))))) ∧
    (p.lock = false → exec (.evex_vpackuswb_ymm_k1z_ymm_ymmm256 p m) s = .next (done s (.ok (evexRecord .EVEX_Vpackuswb_ymm_k1z_ymm_ymmm256 p L [regOpd .ymm x m, vvvvOpd .ymm x, rmOpd q.bitness .ymm x (bcstFactor p m 32 0) m .Packed256_Int16] (evexRounding .none p m) (evexSae s.params .none p m))))) ∧
    (p.lock = false → exec (.evex_vpackuswb_zmm_k1z_zmm_zmmm512 p m) s = .next (done s (.ok (evexRecord .EVEX_Vpackuswb_zmm_k1z_zmm_zmmm512 p L [regOpd .zmm x m, vvvvOpd .zmm x, rmOpd q.bitness .zmm x (bcstFactor p m 64 0) m .Packed512_Int16] (evexRounding .none p m) (evexSae s.params .none p m))))) ∧
    (p.lock = false → exec (.evex_vmovdqa32_xmm_k1z_xmmm128 p m) s = .next (done s (.ok (evexRecord .EVEX_Vmovdqa32_xmm_k1z_xmmm128 p L [regOpd .xmm x m, rmOpd q.bitness .xmm x (bcstFactor p m 16 0) m .Packed128_Int32] (evexRounding .none p m) (evexSae s.params .none p m))))) ∧
    (p.lock = false → exec (.evex_vmovdqa32_ymm_k1z_ymmm256 p m) s = .next (done s (.ok (evexRecord .EVEX_Vmovdqa32_ymm_k1z_ymmm256 p L [regOpd .ymm x m, rmOpd q.bitness .ymm x (bcstFactor p m 32 0) m .Packed256_Int32] (evexRounding .none p m) (evexSae s.params .none p m))))) ∧
    (p.lock = false → exec (.evex_vmovdqa32_zmm_k1z_zmmm512 p m) s = .next (done s (.ok (evexRecord .EVEX_Vmovdqa32_zmm_k1z_zmmm512 p L [regOpd .zmm x m, rmOpd q.bitness .zmm x (bcstFactor p m 64 0) m .Packed512_Int32] (evexRounding .none p m) (evexSae s.params .none p m))))) ∧
    (p.lock = false → exec (.evex_vmovdqa64_xmm_k1z_xmmm128 p m) s = .next (done s (.ok (evexRecord .EVEX_Vmovdqa64_xmm_k1z_xmmm128 p L [regOpd .xmm x m, rmOpd q.bitness .xmm x (bcstFactor p m 16 0) m .Packed128_Int64] (evexRounding .none p m) (evexSae s.params .none p m))))) ∧
    (p.lock = false → exec (.evex_vmovdqa64_ymm_k1z_ymmm256 p m) s = .next (done s (.ok (evexRecord .EVEX_Vmovdqa64_ymm_k1z_ymmm256 p L [regOpd .ymm x m, rmOpd q.bitness .ymm x (bcstFactor p m 32 0) m .Packed256_Int64] (evexRounding .none p m) (evexSae s.params .none p m))))) ∧
    (p.lock = false → exec (.evex_vmovdqa64_zmm_k1z_zmmm512 p m) s = .next (done s (.ok (evexRecord .EVEX_Vmovdqa64_zmm_k1z_zmmm512 p L [regOpd .zmm x m, rmOpd q.bitness .zmm x (bcstFactor p m 64 0) m .Packed512_Int64] (evexRounding .none p m) (evexSae s.params .none p m)))))

/-- Opmask and zeroing of an EVEX result, and the values under VEX (R291, R292, R298). -/
def Obligations.OpmaskZeroingAndVexDefaults : Prop :=
  (∀ (prm : Params) (y : Body) (m : ModRM),
    (∀ p, vecExt prm y m (.vex p) = some ⟨none, false, none, false⟩) ∧
    ∀ e : EvexPrefix, ∃ v, vecExt prm y m (.evex e) = some v ∧
      (e.aaa.toNat = 0 → v.opMask = none) ∧ (e.aaa.toNat ≠ 0 → v.opMask = some e.aaa) ∧ v.opMask ≠ some 0 ∧
      v.zeroingMasking = e.z) ∧
  ∀ (ps : PrefixState) (m : ModRM) (r : Row), ps.space = .evex → featuresOk ps m r = true →
    (ps.aaa ≠ 0 → r.k = true) ∧ (ps.z = true → r.zeroing = true ∧ ps.aaa ≠ 0)

/-- Rounding control and SAE of an EVEX result (45_vector_extension.md, R290). The spec marks R294 (D31), R295 (D31) as its own reading. -/
def Obligations.RoundingAndSaeOfEvexResults : Prop :=
  ∀ (prm : Params) (y : Body) (m : ModRM),
    (∀ p, vecExt prm y m (.legacy p) = none) ∧
    ∀ e : EvexPrefix, ∃ v, vecExt prm y m (.evex e) = some v ∧
      v.roundingControl = evexRounding y.ersae e m ∧
      v.suppressAllExceptions = evexSae prm y.ersae e m
end

