-- ==== Sys2Proof/Laws/Bytes.lean ====
section
/-! SUPPORT. Little-endian byte strings: writing a value and reading it back (spec R61, R154). -/

namespace Sys2Proof.Laws

theorem leBytes_length (n v : Nat) : (leBytes n v).length = n := by
  induction n generalizing v with
  | zero => rfl
  | succ n ih => simp [leBytes, ih]

theorem leNat_leBytes (n v : Nat) : leNat (leBytes n v) = v % 256 ^ n := by
  induction n generalizing v with
  | zero => simp [leBytes, leNat, Nat.mod_one]
  | succ n ih =>
    have h : v % (256 * 256 ^ n) = v % 256 + 256 * (v / 256 % 256 ^ n) := Nat.mod_mul
    simp only [leBytes, leNat, ih, BitVec.toNat_ofNat, Nat.reducePow]
    rw [pow_succ', h]

theorem leNat_lt (bs : List Byte) : leNat bs < 256 ^ bs.length := by
  induction bs with
  | nil => simp [leNat]
  | cons b bs ih =>
    have hb := b.isLt
    simp only [leNat, List.length_cons, pow_succ]
    omega

theorem leBytes_leNat (bs : List Byte) : leBytes bs.length (leNat bs) = bs := by
  induction bs with
  | nil => rfl
  | cons b bs ih =>
    have hb := b.isLt
    have h1 : (b.toNat + 256 * leNat bs) / 256 = leNat bs := by omega
    have h2 : BitVec.ofNat 8 (b.toNat + 256 * leNat bs) = b := by
      apply BitVec.eq_of_toNat_eq
      simp only [BitVec.toNat_ofNat]
      omega
    simp only [leBytes, leNat, List.length_cons, h1, h2, ih]

/-- A field of `8 * n` bits survives its `n` bytes. -/
theorem leBits_leBytes8 (v : BitVec 8) : leBits 8 (leBytes 1 v.toNat) = v := by
  apply BitVec.eq_of_toNat_eq
  have := v.isLt
  simp only [leBits, leNat_leBytes, BitVec.toNat_ofNat]
  omega

theorem leBits_leBytes16 (v : BitVec 16) : leBits 16 (leBytes 2 v.toNat) = v := by
  apply BitVec.eq_of_toNat_eq
  have := v.isLt
  simp only [leBits, leNat_leBytes, BitVec.toNat_ofNat]
  omega

theorem leBits_leBytes32 (v : BitVec 32) : leBits 32 (leBytes 4 v.toNat) = v := by
  apply BitVec.eq_of_toNat_eq
  have := v.isLt
  simp only [leBits, leNat_leBytes, BitVec.toNat_ofNat]
  omega

theorem leBits_leBytes64 (v : BitVec 64) : leBits 64 (leBytes 8 v.toNat) = v := by
  apply BitVec.eq_of_toNat_eq
  have := v.isLt
  simp only [leBits, leNat_leBytes, BitVec.toNat_ofNat]
  omega

/-- A direct address survives its bytes (R269). -/
theorem moffs_ofBytes_bytes (a : Moffs) : Moffs.ofBytes a.bytes = a := by
  cases a with
  | a16 a => simp [Moffs.ofBytes, Moffs.bytes, leBytes_length, leBits_leBytes16]
  | a32 a => simp [Moffs.ofBytes, Moffs.bytes, leBytes_length, leBits_leBytes32]
  | a64 a => simp [Moffs.ofBytes, Moffs.bytes, leBytes_length, leBits_leBytes64]

end Sys2Proof.Laws
end

