-- ==== Sys2Proof/Laws/State.lean ====
section
/-! SUPPORT. One lemma per field per update of the state and of the transaction, true by rfl, so that no proof unfolds a
record update. -/

namespace Sys2Proof.Laws

open Sys2Proof.Machine

@[simp] theorem submit_params (s : State) (b : Memory) (q : Request) : (s.submit b q).params = s.params := rfl
@[simp] theorem submit_buf (s : State) (b : Memory) (q : Request) : (s.submit b q).buf = b := rfl
@[simp] theorem submit_request (s : State) (b : Memory) (q : Request) : (s.submit b q).request = some q := rfl
@[simp] theorem submit_txn (s : State) (b : Memory) (q : Request) : (s.submit b q).txn = none := rfl
@[simp] theorem submit_response (s : State) (b : Memory) (q : Request) : (s.submit b q).response = none := rfl

@[simp] theorem callerWrite_params (s : State) (a : Nat) (v : Byte) : (s.callerWrite a v).params = s.params := rfl
@[simp] theorem callerWrite_buf (s : State) (a : Nat) (v : Byte) : (s.callerWrite a v).buf = s.buf.write a v := rfl
@[simp] theorem callerWrite_request (s : State) (a : Nat) (v : Byte) : (s.callerWrite a v).request = s.request := rfl
@[simp] theorem callerWrite_txn (s : State) (a : Nat) (v : Byte) : (s.callerWrite a v).txn = s.txn := rfl
@[simp] theorem callerWrite_response (s : State) (a : Nat) (v : Byte) : (s.callerWrite a v).response = s.response := rfl

@[simp] theorem withTxn_params (s : State) (t : Txn) : (s.withTxn t).params = s.params := rfl
@[simp] theorem withTxn_buf (s : State) (t : Txn) : (s.withTxn t).buf = s.buf := rfl
@[simp] theorem withTxn_request (s : State) (t : Txn) : (s.withTxn t).request = s.request := rfl
@[simp] theorem withTxn_txn (s : State) (t : Txn) : (s.withTxn t).txn = some t := rfl
@[simp] theorem withTxn_response (s : State) (t : Txn) : (s.withTxn t).response = s.response := rfl

@[simp] theorem begin_params (s : State) (q : Request) : (s.begin q).params = s.params := rfl
@[simp] theorem begin_buf (s : State) (q : Request) : (s.begin q).buf = s.buf := rfl
@[simp] theorem begin_request (s : State) (q : Request) : (s.begin q).request = s.request := rfl
@[simp] theorem begin_txn (s : State) (q : Request) : (s.begin q).txn = some (Txn.initial q.start) := rfl
@[simp] theorem begin_response (s : State) (q : Request) : (s.begin q).response = s.response := rfl

@[simp] theorem fail_params (s : State) (k : FailureKind) : (s.fail k).params = s.params := rfl
@[simp] theorem fail_buf (s : State) (k : FailureKind) : (s.fail k).buf = s.buf := rfl
@[simp] theorem fail_request (s : State) (k : FailureKind) : (s.fail k).request = s.request := rfl
@[simp] theorem fail_txn (s : State) (k : FailureKind) : (s.fail k).txn = none := rfl
@[simp] theorem fail_response (s : State) (k : FailureKind) : (s.fail k).response = some (.fail k) := rfl

@[simp] theorem succeed_params (s : State) (out : Instruction) : (s.succeed out).params = s.params := rfl
@[simp] theorem succeed_buf (s : State) (out : Instruction) : (s.succeed out).buf = s.buf := rfl
@[simp] theorem succeed_request (s : State) (out : Instruction) : (s.succeed out).request = s.request := rfl
@[simp] theorem succeed_txn (s : State) (out : Instruction) : (s.succeed out).txn = none := rfl
@[simp] theorem succeed_response (s : State) (out : Instruction) : (s.succeed out).response = some (.ok out) := rfl

@[simp] theorem done_params (s : State) (r : Response) : (done s r).params = s.params := rfl
@[simp] theorem done_buf (s : State) (r : Response) : (done s r).buf = s.buf := rfl
@[simp] theorem done_request (s : State) (r : Response) : (done s r).request = s.request := rfl
@[simp] theorem done_txn (s : State) (r : Response) : (done s r).txn = none := rfl
@[simp] theorem done_response (s : State) (r : Response) : (done s r).response = some r := rfl

@[simp] theorem advance_pos (t : Txn) : (advance t).pos = t.pos + 1 := rfl
@[simp] theorem advance_ps (t : Txn) : (advance t).ps = t.ps := rfl
@[simp] theorem advance_opcode (t : Txn) : (advance t).opcode = t.opcode := rfl
@[simp] theorem advance_osz (t : Txn) : (advance t).osz = t.osz := rfl
@[simp] theorem advance_asz (t : Txn) : (advance t).asz = t.asz := rfl
@[simp] theorem advance_row (t : Txn) : (advance t).row = t.row := rfl
@[simp] theorem advance_modrm (t : Txn) : (advance t).modrm = t.modrm := rfl
@[simp] theorem advance_trail (t : Txn) : (advance t).trail = t.trail := rfl
@[simp] theorem advance_mem (t : Txn) : (advance t).mem = t.mem := rfl
@[simp] theorem advance_out (t : Txn) : (advance t).out = t.out := rfl

@[simp] theorem withOpcode_pos (t : Txn) (m : OpMap) (v : Byte) : (withOpcode t m v).pos = t.pos := rfl
@[simp] theorem withOpcode_ps (t : Txn) (m : OpMap) (v : Byte) : (withOpcode t m v).ps = { t.ps with map := m } := rfl
@[simp] theorem withOpcode_opcode (t : Txn) (m : OpMap) (v : Byte) : (withOpcode t m v).opcode = some v := rfl
@[simp] theorem withOpcode_osz (t : Txn) (m : OpMap) (v : Byte) : (withOpcode t m v).osz = t.osz := rfl
@[simp] theorem withOpcode_asz (t : Txn) (m : OpMap) (v : Byte) : (withOpcode t m v).asz = t.asz := rfl
@[simp] theorem withOpcode_row (t : Txn) (m : OpMap) (v : Byte) : (withOpcode t m v).row = t.row := rfl
@[simp] theorem withOpcode_modrm (t : Txn) (m : OpMap) (v : Byte) : (withOpcode t m v).modrm = t.modrm := rfl
@[simp] theorem withOpcode_trail (t : Txn) (m : OpMap) (v : Byte) : (withOpcode t m v).trail = t.trail := rfl
@[simp] theorem withOpcode_mem (t : Txn) (m : OpMap) (v : Byte) : (withOpcode t m v).mem = t.mem := rfl
@[simp] theorem withOpcode_out (t : Txn) (m : OpMap) (v : Byte) : (withOpcode t m v).out = t.out := rfl

@[simp] theorem txnInitial_pos (n : Nat) : (Txn.initial n).pos = n := rfl
@[simp] theorem txnInitial_ps (n : Nat) : (Txn.initial n).ps = PrefixState.initial := rfl
@[simp] theorem txnInitial_opcode (n : Nat) : (Txn.initial n).opcode = none := rfl
@[simp] theorem txnInitial_osz (n : Nat) : (Txn.initial n).osz = none := rfl
@[simp] theorem txnInitial_asz (n : Nat) : (Txn.initial n).asz = none := rfl
@[simp] theorem txnInitial_row (n : Nat) : (Txn.initial n).row = none := rfl
@[simp] theorem txnInitial_modrm (n : Nat) : (Txn.initial n).modrm = none := rfl
@[simp] theorem txnInitial_trail (n : Nat) : (Txn.initial n).trail = [] := rfl
@[simp] theorem txnInitial_mem (n : Nat) : (Txn.initial n).mem = none := rfl
@[simp] theorem txnInitial_out (n : Nat) : (Txn.initial n).out = none := rfl

@[simp] theorem countPrefix_has66 (ps : PrefixState) : (countPrefix ps).has66 = ps.has66 := rfl
@[simp] theorem countPrefix_has67 (ps : PrefixState) : (countPrefix ps).has67 = ps.has67 := rfl
@[simp] theorem countPrefix_seg (ps : PrefixState) : (countPrefix ps).seg = ps.seg := rfl
@[simp] theorem countPrefix_rep (ps : PrefixState) : (countPrefix ps).rep = ps.rep := rfl
@[simp] theorem countPrefix_lock (ps : PrefixState) : (countPrefix ps).lock = ps.lock := rfl
@[simp] theorem countPrefix_rexPresent (ps : PrefixState) : (countPrefix ps).rexPresent = ps.rexPresent := rfl
@[simp] theorem countPrefix_w (ps : PrefixState) : (countPrefix ps).w = ps.w := rfl
@[simp] theorem countPrefix_r (ps : PrefixState) : (countPrefix ps).r = ps.r := rfl
@[simp] theorem countPrefix_x (ps : PrefixState) : (countPrefix ps).x = ps.x := rfl
@[simp] theorem countPrefix_b (ps : PrefixState) : (countPrefix ps).b = ps.b := rfl
@[simp] theorem countPrefix_rp (ps : PrefixState) : (countPrefix ps).rp = ps.rp := rfl
@[simp] theorem countPrefix_vp (ps : PrefixState) : (countPrefix ps).vp = ps.vp := rfl
@[simp] theorem countPrefix_vvvv (ps : PrefixState) : (countPrefix ps).vvvv = ps.vvvv := rfl
@[simp] theorem countPrefix_ll (ps : PrefixState) : (countPrefix ps).ll = ps.ll := rfl
@[simp] theorem countPrefix_z (ps : PrefixState) : (countPrefix ps).z = ps.z := rfl
@[simp] theorem countPrefix_bcst (ps : PrefixState) : (countPrefix ps).bcst = ps.bcst := rfl
@[simp] theorem countPrefix_aaa (ps : PrefixState) : (countPrefix ps).aaa = ps.aaa := rfl
@[simp] theorem countPrefix_pp (ps : PrefixState) : (countPrefix ps).pp = ps.pp := rfl
@[simp] theorem countPrefix_space (ps : PrefixState) : (countPrefix ps).space = ps.space := rfl
@[simp] theorem countPrefix_map (ps : PrefixState) : (countPrefix ps).map = ps.map := rfl
@[simp] theorem countPrefix_mp (ps : PrefixState) : (countPrefix ps).mp = ps.mp := rfl
@[simp] theorem countPrefix_prefixCount (ps : PrefixState) : (countPrefix ps).prefixCount = ps.prefixCount + 1 := rfl

@[simp] theorem clearRex_has66 (ps : PrefixState) : (clearRex ps).has66 = ps.has66 := rfl
@[simp] theorem clearRex_has67 (ps : PrefixState) : (clearRex ps).has67 = ps.has67 := rfl
@[simp] theorem clearRex_seg (ps : PrefixState) : (clearRex ps).seg = ps.seg := rfl
@[simp] theorem clearRex_rep (ps : PrefixState) : (clearRex ps).rep = ps.rep := rfl
@[simp] theorem clearRex_lock (ps : PrefixState) : (clearRex ps).lock = ps.lock := rfl
@[simp] theorem clearRex_rexPresent (ps : PrefixState) : (clearRex ps).rexPresent = false := rfl
@[simp] theorem clearRex_w (ps : PrefixState) : (clearRex ps).w = false := rfl
@[simp] theorem clearRex_r (ps : PrefixState) : (clearRex ps).r = false := rfl
@[simp] theorem clearRex_x (ps : PrefixState) : (clearRex ps).x = false := rfl
@[simp] theorem clearRex_b (ps : PrefixState) : (clearRex ps).b = false := rfl
@[simp] theorem clearRex_rp (ps : PrefixState) : (clearRex ps).rp = ps.rp := rfl
@[simp] theorem clearRex_vp (ps : PrefixState) : (clearRex ps).vp = ps.vp := rfl
@[simp] theorem clearRex_vvvv (ps : PrefixState) : (clearRex ps).vvvv = ps.vvvv := rfl
@[simp] theorem clearRex_ll (ps : PrefixState) : (clearRex ps).ll = ps.ll := rfl
@[simp] theorem clearRex_z (ps : PrefixState) : (clearRex ps).z = ps.z := rfl
@[simp] theorem clearRex_bcst (ps : PrefixState) : (clearRex ps).bcst = ps.bcst := rfl
@[simp] theorem clearRex_aaa (ps : PrefixState) : (clearRex ps).aaa = ps.aaa := rfl
@[simp] theorem clearRex_pp (ps : PrefixState) : (clearRex ps).pp = ps.pp := rfl
@[simp] theorem clearRex_space (ps : PrefixState) : (clearRex ps).space = ps.space := rfl
@[simp] theorem clearRex_map (ps : PrefixState) : (clearRex ps).map = ps.map := rfl
@[simp] theorem clearRex_mp (ps : PrefixState) : (clearRex ps).mp = ps.mp := rfl
@[simp] theorem clearRex_prefixCount (ps : PrefixState) : (clearRex ps).prefixCount = ps.prefixCount := rfl

@[simp] theorem setRex_has66 (v : Byte) (ps : PrefixState) : (setRex v ps).has66 = ps.has66 := rfl
@[simp] theorem setRex_has67 (v : Byte) (ps : PrefixState) : (setRex v ps).has67 = ps.has67 := rfl
@[simp] theorem setRex_seg (v : Byte) (ps : PrefixState) : (setRex v ps).seg = ps.seg := rfl
@[simp] theorem setRex_rep (v : Byte) (ps : PrefixState) : (setRex v ps).rep = ps.rep := rfl
@[simp] theorem setRex_lock (v : Byte) (ps : PrefixState) : (setRex v ps).lock = ps.lock := rfl
@[simp] theorem setRex_rexPresent (v : Byte) (ps : PrefixState) : (setRex v ps).rexPresent = true := rfl
@[simp] theorem setRex_w (v : Byte) (ps : PrefixState) : (setRex v ps).w = v.getLsbD 3 := rfl
@[simp] theorem setRex_r (v : Byte) (ps : PrefixState) : (setRex v ps).r = v.getLsbD 2 := rfl
@[simp] theorem setRex_x (v : Byte) (ps : PrefixState) : (setRex v ps).x = v.getLsbD 1 := rfl
@[simp] theorem setRex_b (v : Byte) (ps : PrefixState) : (setRex v ps).b = v.getLsbD 0 := rfl
@[simp] theorem setRex_rp (v : Byte) (ps : PrefixState) : (setRex v ps).rp = ps.rp := rfl
@[simp] theorem setRex_vp (v : Byte) (ps : PrefixState) : (setRex v ps).vp = ps.vp := rfl
@[simp] theorem setRex_vvvv (v : Byte) (ps : PrefixState) : (setRex v ps).vvvv = ps.vvvv := rfl
@[simp] theorem setRex_ll (v : Byte) (ps : PrefixState) : (setRex v ps).ll = ps.ll := rfl
@[simp] theorem setRex_z (v : Byte) (ps : PrefixState) : (setRex v ps).z = ps.z := rfl
@[simp] theorem setRex_bcst (v : Byte) (ps : PrefixState) : (setRex v ps).bcst = ps.bcst := rfl
@[simp] theorem setRex_aaa (v : Byte) (ps : PrefixState) : (setRex v ps).aaa = ps.aaa := rfl
@[simp] theorem setRex_pp (v : Byte) (ps : PrefixState) : (setRex v ps).pp = ps.pp := rfl
@[simp] theorem setRex_space (v : Byte) (ps : PrefixState) : (setRex v ps).space = ps.space := rfl
@[simp] theorem setRex_map (v : Byte) (ps : PrefixState) : (setRex v ps).map = ps.map := rfl
@[simp] theorem setRex_mp (v : Byte) (ps : PrefixState) : (setRex v ps).mp = ps.mp := rfl
@[simp] theorem setRex_prefixCount (v : Byte) (ps : PrefixState) : (setRex v ps).prefixCount = ps.prefixCount := rfl

@[simp] theorem resetWith_params (p : Params) : (State.resetWith p).params = p := rfl
@[simp] theorem resetWith_buf (p : Params) : (State.resetWith p).buf = Memory.empty := rfl
@[simp] theorem resetWith_request (p : Params) : (State.resetWith p).request = none := rfl
@[simp] theorem resetWith_txn (p : Params) : (State.resetWith p).txn = none := rfl
@[simp] theorem resetWith_response (p : Params) : (State.resetWith p).response = none := rfl

@[simp] theorem reset_params : State.reset.params = Params.reference := rfl
@[simp] theorem reset_buf : State.reset.buf = Memory.empty := rfl
@[simp] theorem reset_request : State.reset.request = none := rfl
@[simp] theorem reset_txn : State.reset.txn = none := rfl
@[simp] theorem reset_response : State.reset.response = none := rfl

/-- The failure exit and the successful end are the two ways a transaction is done. -/
theorem fail_eq_done (s : State) (k : FailureKind) : s.fail k = done s (.fail k) := rfl

theorem succeed_eq_done (s : State) (out : Instruction) : s.succeed out = done s (.ok out) := rfl

/-- A step runs what was decoded: an instruction by its meaning, a row by the assembler. -/
@[simp] theorem runDecoded_instr (i : Instr) (s : State) : runDecoded (.instr i) s = exec i s := rfl

@[simp] theorem runDecoded_row (r : Row) (f : Parts) (s : State) : runDecoded (.row r f) s = assembleRow r f s := rfl

/-- What a transaction held does not matter once it is done. -/
@[simp] theorem done_withTxn (s : State) (t : Txn) (r : Response) : done (s.withTxn t) r = done s r := rfl

@[simp] theorem done_begin (s : State) (q : Request) (r : Response) : done (s.begin q) r = done s r := rfl

end Sys2Proof.Laws
end

