-- ==== Sys2Proof/Laws/Cursor.lean ====
section
/-! SUPPORT. What each cursor operation can do (spec R150 to R155), said once. -/

namespace Sys2Proof.Laws

open Sys2Proof.Machine

/-- Every case of `Peek`. -/
theorem peek_cases (q : Source) (t : Txn) (k : Nat) :
    (q.start + maxLen ≤ t.pos + k ∧ peek q t k = .error .InvalidOpcode)
      ∨ (t.pos + k < q.start + maxLen ∧ q.buf.read (t.pos + k) = none ∧ peek q t k = .error .EndOfInput)
      ∨ ∃ v, t.pos + k < q.start + maxLen ∧ q.buf.read (t.pos + k) = some v ∧ peek q t k = .ok v := by
  unfold peek
  by_cases h : q.start + maxLen ≤ t.pos + k
  · exact .inl ⟨h, by simp [h]⟩
  · cases hr : q.buf.read (t.pos + k) with
    | none => exact .inr (.inl ⟨by omega, rfl, by simp [h]⟩)
    | some v => exact .inr (.inr ⟨v, by omega, rfl, by simp [h]⟩)

/-- A `Peek` that answers a byte has found it inside the limit and the buffer. -/
theorem peek_ok {q : Source} {t : Txn} {k : Nat} {v : Byte} :
    peek q t k = .ok v ↔ t.pos + k < q.start + maxLen ∧ q.buf.read (t.pos + k) = some v := by
  rcases peek_cases q t k with ⟨h, e⟩ | ⟨h, hr, e⟩ | ⟨w, h, hr, e⟩
  · simp [e]; omega
  · simp [e, hr]
  · simp [e, hr, h]

/-- `Peek` fails with two kinds only. -/
theorem peek_error {q : Source} {t : Txn} {k : Nat} {f : FailureKind} (h : peek q t k = .error f) :
    f = .InvalidOpcode ∨ f = .EndOfInput := by
  rcases peek_cases q t k with ⟨_, e⟩ | ⟨_, _, e⟩ | ⟨w, _, _, e⟩ <;> rw [e] at h <;> cases h <;> simp

/-- A `Read` that answers a byte has moved `POS` by one and nothing else. -/
theorem readByte_ok {q : Source} {t t1 : Txn} {v : Byte} :
    readByte q t = .ok (v, t1) ↔ peek q t 0 = .ok v ∧ t1 = advance t := by
  unfold readByte
  cases h : peek q t 0 with
  | error e => simp
  | ok w => simp [eq_comm]

/-- `Read` fails as its `Peek` does. -/
theorem readByte_error {q : Source} {t : Txn} {f : FailureKind} :
    readByte q t = .error f ↔ peek q t 0 = .error f := by
  unfold readByte
  cases h : peek q t 0 <;> simp

/-- A read of `n` bytes that succeeds moves `POS` by `n` and nothing else. -/
theorem readBytes_ok {q : Source} {n : Nat} {t t1 : Txn} {bs : List Byte} (h : readBytes q n t = .ok (bs, t1)) :
    bs.length = n ∧ t1 = { t with pos := t.pos + n } := by
  induction n generalizing t bs t1 with
  | zero => simp only [readBytes, Except.ok.injEq, Prod.mk.injEq] at h; obtain ⟨rfl, rfl⟩ := h; exact ⟨rfl, rfl⟩
  | succ n ih =>
    unfold readBytes at h
    split at h
    · cases h
    · rename_i v ta ha
      obtain ⟨-, rfl⟩ := readByte_ok.mp ha
      split at h
      · cases h
      · rename_i vs tb hb
        obtain ⟨hl, rfl⟩ := ih hb
        cases h
        exact ⟨by simp [hl], by simp [advance]; omega⟩

/-- A read of `n` bytes fails with two kinds only. -/
theorem readBytes_error {q : Source} {n : Nat} {t : Txn} {f : FailureKind} (h : readBytes q n t = .error f) :
    f = .InvalidOpcode ∨ f = .EndOfInput := by
  induction n generalizing t with
  | zero => cases h
  | succ n ih =>
    unfold readBytes at h
    split at h
    · rename_i e he
      cases h
      exact peek_error (readByte_error.mp he)
    · split at h
      · rename_i e hb
        cases h
        exact ih hb
      · cases h

end Sys2Proof.Laws
end

