-- ==== Sys2Proof/Laws/Decode.lean ====
section
/-! SUPPORT. What each stage of the decoder can do when it succeeds (spec R160 to R200, R223 to R239, R267 to R269), said
once: the provers cite these instead of unfolding the stages. -/

namespace Sys2Proof.Laws

open Sys2Proof.Machine

/-- The scan loop, one turn: it ends on a byte it does not scan, or goes on after one it does. -/
theorem scanPrefixes_ok {q : Source} {fuel : Nat} {t t' : Txn} (h : scanPrefixes q (fuel + 1) t = .ok t') :
    ∃ v, peek q t 0 = .ok v ∧
      ((scanByte q.bitness v t.ps = none ∧ t' = t) ∨
        ∃ ps, scanByte q.bitness v t.ps = some ps ∧
          scanPrefixes q fuel { advance t with ps := countPrefix ps } = .ok t') := by
  unfold scanPrefixes at h
  split at h
  · cases h
  · rename_i v hv
    split at h
    · rename_i hs
      exact ⟨v, hv, .inl ⟨hs, by cases h; rfl⟩⟩
    · rename_i ps hs
      exact ⟨v, hv, .inr ⟨ps, hs, h⟩⟩

/-- The escape stage succeeds through its four parts. -/
theorem escapeStage_ok {q : Source} {e : Escape} {t t' : Txn} (h : escapeStage q e t = .ok t') :
    ∃ t1 ps2 ps3, readEscape q e t = .ok t1 ∧ legacyBeforeEscape q t.ps t1.ps = .ok ps2 ∧
      extensionBits q ps2 = .ok ps3 ∧ t' = { t1 with ps := { ps3 with mp := ppMp ps3.pp } } := by
  unfold escapeStage at h
  split at h
  · cases h
  · rename_i t1 h1
    split at h
    · cases h
    · rename_i ps2 h2
      split at h
      · cases h
      · rename_i ps3 h3
        cases h
        exact ⟨t1, ps2, ps3, h1, h2, h3, rfl⟩

/-- The prefix scanner succeeds without an escape or through the escape stage. -/
theorem prefixStage_ok {q : Source} {t t' : Txn} (h : prefixStage q t = .ok t') :
    ∃ t1, scanPrefixes q (maxLen + 1) t = .ok t1 ∧
      ((escapeTest q t1 = .ok none ∧ t' = { t1 with ps := { t1.ps with mp := legacyMp t1.ps.rep t1.ps.has66 } }) ∨
        ∃ e, escapeTest q t1 = .ok (some e) ∧ escapeStage q e t1 = .ok t') := by
  unfold prefixStage at h
  split at h
  · cases h
  · rename_i t1 h1
    refine ⟨t1, h1, ?_⟩
    split at h
    · cases h
    · rename_i h2
      exact .inl ⟨h2, by cases h; rfl⟩
    · rename_i e h2
      exact .inr ⟨e, h2, h⟩

/-- A candidate is a row of the table with the space, the map and the opcode byte. -/
theorem mem_candidates {rows : List Row} {ps : PrefixState} {op : Byte} {r : Row} :
    r ∈ candidates rows ps op ↔ r ∈ rows ∧ r.space = ps.space ∧ r.map = ps.map ∧ op &&& r.opmask = r.op := by
  simp [candidates, and_assoc]

/-- The row that selection answers is a candidate that passes the keys, the vector length and the mode filter. -/
theorem selectRow_mem {b : Bitness} {ps : PrefixState} {osz : OpSize} {m : ModRM} {cand : List Row} {r : Row}
    (h : selectRow b ps osz m cand = .ok r) : r ∈ inMode b (selected ps osz m cand) := by
  unfold selectRow at h
  split at h
  · cases h
  · rename_i r0 rs hs
    split at h
    · cases h
    · rename_i t0 ts hm
      cases h
      rw [hs, hm]
      exact List.mem_cons_self

/-- What it means for a row to be selected. -/
theorem mem_inMode_selected {b : Bitness} {ps : PrefixState} {osz : OpSize} {m : ModRM} {cand : List Row} {r : Row} :
    r ∈ inMode b (selected ps osz m cand) ↔
      r ∈ cand ∧ keyMatch ps osz m r = true ∧
        lengthMatch (lengthSelector ps m (cand.filter (keyMatch ps osz m))) r = true ∧ r.bitness.contains b = true := by
  simp only [inMode, selected, List.mem_filter]
  tauto

/-- The read of the ModRM byte succeeds with the byte split, or reads nothing. -/
theorem readModRM_ok {q : Source} {cand : List Row} {t t' : Txn} (h : readModRM q cand t = .ok t') :
    (cand.any (·.hasModrm) = true ∧ ∃ v, peek q t 0 = .ok v ∧ t' = { advance t with modrm := some (splitModRM v) })
      ∨ (cand.any (·.hasModrm) = false ∧ t' = t) := by
  unfold readModRM at h
  split at h
  · rename_i hc
    split at h
    · cases h
    · rename_i v t1 hr
      obtain ⟨hp, rfl⟩ := readByte_ok.mp hr
      cases h
      exact .inl ⟨hc, v, hp, rfl⟩
  · rename_i hc
    cases h
    exact .inr ⟨by simpa using hc, rfl⟩

/-- The dispatcher succeeds through its reads, the selection and the feature checks. -/
theorem dispatchStage_ok {q : Source} {t t' : Txn} {r : Row} (h : dispatchStage q t = .ok (r, t')) :
    ∃ t1 t2, readOpcode q t = .ok t1 ∧ readModRM q (candidates q.params.table t1.ps (t1.opcode.getD 0)) t1 = .ok t2 ∧
      selectRow q.bitness t2.ps (opSize q.bitness t2.ps.w t2.ps.has66) (t2.modrm.getD ModRM.zero)
        (candidates q.params.table t1.ps (t1.opcode.getD 0)) = .ok r ∧
      featuresOk t2.ps (t2.modrm.getD ModRM.zero) r = true ∧
      t' = { t2 with osz := some (opSize q.bitness t2.ps.w t2.ps.has66), asz := some (addrSize q.bitness t2.ps.has67),
                     row := some r } := by
  unfold dispatchStage at h
  split at h
  · cases h
  · rename_i t1 h1
    simp only at h
    split at h
    · cases h
    · split at h
      · cases h
      · rename_i t2 h2
        split at h
        · cases h
        · rename_i r' h3
          split at h
          · rename_i h4
            cases h
            exact ⟨t1, t2, h1, h2, h3, h4, rfl⟩
          · cases h

/-- The reads after the ModRM byte succeed with SIB and displacement as the addressing form gives them. -/
theorem addressStage_ok {q : Source} {a : AddrSize} {t t' : Txn} (h : addressStage q a t = .ok t') :
    (t.modrm = none ∧ t' = t) ∨
      ∃ m m1 t1 m2 t2, t.modrm = some m ∧ readSib q a m t = .ok (m1, t1) ∧ readDisp q a m1 t1 = .ok (m2, t2) ∧
        t' = { t2 with modrm := some m2 } := by
  unfold addressStage at h
  split at h
  · rename_i hm
    cases h
    exact .inl ⟨hm, rfl⟩
  · rename_i m hm
    split at h
    · cases h
    · rename_i m1 t1 h1
      split at h
      · cases h
      · rename_i m2 t2 h2
        cases h
        exact .inr ⟨m, m1, t1, m2, t2, hm, h1, h2, rfl⟩

/-- The SIB read succeeds with the byte split where the form has one, and reads nothing elsewhere. -/
theorem readSib_ok {q : Source} {a : AddrSize} {m m' : ModRM} {t t' : Txn} (h : readSib q a m t = .ok (m', t')) :
    (sibFollows a m.mod m.rm = true ∧ ∃ v, peek q t 0 = .ok v ∧ m' = { m with sib := some (splitSib v) } ∧ t' = advance t)
      ∨ (sibFollows a m.mod m.rm = false ∧ m' = m ∧ t' = t) := by
  unfold readSib at h
  split at h
  · rename_i hf
    split at h
    · cases h
    · rename_i v t1 hr
      obtain ⟨hp, rfl⟩ := readByte_ok.mp hr
      cases h
      exact .inl ⟨hf, v, hp, rfl, rfl⟩
  · rename_i hf
    cases h
    exact .inr ⟨by simpa using hf, rfl, rfl⟩

/-- The displacement read succeeds with the bytes of the displacement field. -/
theorem readDisp_ok {q : Source} {a : AddrSize} {m m' : ModRM} {t t' : Txn} (h : readDisp q a m t = .ok (m', t')) :
    ∃ bs, readBytes q (dispLength a m.mod m.rm (m.sib.map (·.bs))) t = .ok (bs, t') ∧
      m' = { m with disp := dispOf bs } := by
  unfold readDisp at h
  split at h
  · cases h
  · rename_i bs t1 hr
    cases h
    exact ⟨bs, hr, rfl⟩

/-- The trailing read succeeds with the bytes of the trailing field. -/
theorem trailStage_ok {q : Source} {a : AddrSize} {r : Row} {t t' : Txn} (h : trailStage q a r t = .ok t') :
    ∃ bs, readBytes q (trailLength a r.ops) t = .ok (bs, { t with pos := t.pos + trailLength a r.ops }) ∧
      t' = { t with pos := t.pos + trailLength a r.ops, trail := bs } := by
  unfold trailStage at h
  split at h
  · cases h
  · rename_i bs t1 hr
    obtain ⟨-, rfl⟩ := readBytes_ok hr
    cases h
    exact ⟨bs, hr, rfl⟩

/-- The decoder succeeds through its four stages, and what it answers is made of the selected row and the parts that they
read. -/
theorem decode_ok {q : Source} {d : Decoded} {t : Txn} (h : decode q = .ok (d, t)) :
    ∃ t1 r t2 t3, prefixStage q (Txn.initial q.start) = .ok t1 ∧ dispatchStage q t1 = .ok (r, t2) ∧
      addressStage q (addrSize q.bitness t2.ps.has67) t2 = .ok t3 ∧
      trailStage q (addrSize q.bitness t2.ps.has67) r t3 = .ok t ∧ d = decodedOf r (txnParts t) := by
  unfold decode at h
  split at h
  · cases h
  · rename_i t1 h1
    split at h
    · cases h
    · rename_i r t2 h2
      simp only at h
      split at h
      · cases h
      · rename_i t3 h3
        split at h
        · cases h
        · rename_i t4 h4
          cases h
          exact ⟨t1, r, t2, t3, h1, h2, h3, h4, rfl⟩

/-- The decoder fails with the failure of the first stage that fails. -/
theorem decode_error {q : Source} {k : FailureKind} (h : decode q = .error k) :
    prefixStage q (Txn.initial q.start) = .error k ∨
      ∃ t1, prefixStage q (Txn.initial q.start) = .ok t1 ∧
        (dispatchStage q t1 = .error k ∨
          ∃ r t2, dispatchStage q t1 = .ok (r, t2) ∧
            (addressStage q (addrSize q.bitness t2.ps.has67) t2 = .error k ∨
              ∃ t3, addressStage q (addrSize q.bitness t2.ps.has67) t2 = .ok t3 ∧
                trailStage q (addrSize q.bitness t2.ps.has67) r t3 = .error k)) := by
  unfold decode at h
  split at h
  · rename_i e h1
    cases h
    exact .inl h1
  · rename_i t1 h1
    refine .inr ⟨t1, h1, ?_⟩
    split at h
    · rename_i e h2
      cases h
      exact .inl h2
    · rename_i r t2 h2
      refine .inr ⟨r, t2, h2, ?_⟩
      simp only at h
      split at h
      · rename_i e h3
        cases h
        exact .inl h3
      · rename_i t3 h3
        refine .inr ⟨t3, h3, ?_⟩
        split at h
        · rename_i e h4
          cases h
          exact h4
        · cases h

end Sys2Proof.Laws
end

