-- ==== Sys2Proof/Laws/Memory.lean ====
section
/-! SUPPORT. The buffer: every operation keeps the canonical form, a read after a write, and the bytes a loaded buffer
holds (spec R20, R60). -/

namespace Sys2Proof.Laws

theorem cellsWf_weaken {lo lo' len : Nat} {cs : List Host.Cell} (h : cellsWf lo len cs = true) (hl : lo' ≤ lo) :
    cellsWf lo' len cs = true := by
  cases cs with
  | nil => rfl
  | cons c cs =>
    simp only [cellsWf, Bool.and_eq_true, decide_eq_true_eq] at h ⊢
    exact ⟨⟨⟨by omega, h.1.1.2⟩, h.1.2⟩, h.2⟩

/-- A write inside the buffer keeps the canonical form. -/
theorem cellsWrite_wf {lo len a : Nat} {cs : List Host.Cell} (v : Byte) (h : cellsWf lo len cs = true) (hlo : lo ≤ a)
    (ha : a < len) : cellsWf lo len (cellsWrite cs a v) = true := by
  induction cs generalizing lo with
  | nil => by_cases hv : v = unlistedByte <;> simp [cellsWrite, cellsWf, hv, hlo, ha]
  | cons c cs ih =>
    obtain ⟨⟨⟨h1, h2⟩, h3⟩, h4⟩ : ((lo ≤ c.1 ∧ c.1 < len) ∧ c.2 ≠ unlistedByte) ∧ cellsWf (c.1 + 1) len cs = true := by
      simpa [cellsWf] using h
    unfold cellsWrite
    split_ifs with h5 h6 h7 h8
    · exact h
    · simp [cellsWf, h2, h3, h4, hlo, ha, h6]; omega
    · exact cellsWf_weaken h4 (by omega)
    · simp [cellsWf, h8, h7, h4, h1, h2]
    · simp [cellsWf, h1, h2, h3, ih h4 (by omega)]

theorem cellsRead_below {lo len a : Nat} {cs : List Host.Cell} (h : cellsWf lo len cs = true) (ha : a < lo) :
    cellsRead cs a = unlistedByte := by
  induction cs generalizing lo with
  | nil => rfl
  | cons c cs ih =>
    simp only [cellsWf, Bool.and_eq_true, decide_eq_true_eq] at h
    have hne : c.1 ≠ a := by omega
    simp only [cellsRead, hne, if_false]
    exact ih h.2 (by omega)

theorem cellsRead_write_same {lo len : Nat} {cs : List Host.Cell} (a : Nat) (v : Byte) (h : cellsWf lo len cs = true) :
    cellsRead (cellsWrite cs a v) a = v := by
  induction cs generalizing lo with
  | nil => by_cases hv : v = unlistedByte <;> simp [cellsWrite, cellsRead, hv]
  | cons c cs ih =>
    have hc := h
    simp only [cellsWf, Bool.and_eq_true, decide_eq_true_eq] at h
    unfold cellsWrite
    split_ifs with h5 h6 h7 h8
    · rw [h6]; exact cellsRead_below (lo := c.1) (len := len) (by simp [cellsWf, h]) h5
    · simp [cellsRead]
    · rw [h8]; exact cellsRead_below h.2 (by omega)
    · simp [cellsRead]
    · have hne : c.1 ≠ a := fun e => h7 e.symm
      simp only [cellsRead, hne, if_false]
      exact ih h.2

theorem cellsRead_write_other (cs : List Host.Cell) {a b : Nat} (v : Byte) (hab : a ≠ b) :
    cellsRead (cellsWrite cs a v) b = cellsRead cs b := by
  induction cs with
  | nil => by_cases hv : v = unlistedByte <;> simp [cellsWrite, cellsRead, hv, hab]
  | cons c cs ih =>
    unfold cellsWrite
    split_ifs with h5 h6 h7 h8
    · rfl
    · simp [cellsRead, hab]
    · have hne : c.1 ≠ b := fun e => hab (h7.trans e)
      simp [cellsRead, hne]
    · have hne : c.1 ≠ b := fun e => hab (h7.trans e)
      simp [cellsRead, hne, hab]
    · simp only [cellsRead, ih]

/-- The caller's write keeps the canonical form. -/
theorem write_wf (b : Memory) (a : Nat) (v : Byte) (h : b.wf = true) : (b.write a v).wf = true := by
  unfold Memory.write
  split_ifs with ha
  · exact cellsWrite_wf v h (Nat.zero_le a) ha
  · exact h

/-- The caller's write keeps the length. -/
@[simp] theorem write_len (b : Memory) (a : Nat) (v : Byte) : (b.write a v).len = b.len := by
  unfold Memory.write; split_ifs <;> rfl

/-- A byte written inside the buffer reads back. -/
theorem read_write_same (b : Memory) (a : Nat) (v : Byte) (h : b.wf = true) (ha : a < b.len) :
    (b.write a v).read a = some v := by
  simp only [Memory.write, Memory.read, ha, if_true, Option.some.injEq]
  exact cellsRead_write_same a v h

/-- A write leaves every other byte alone. -/
theorem read_write_other (b : Memory) {a c : Nat} (v : Byte) (hac : a ≠ c) : (b.write a v).read c = b.read c := by
  unfold Memory.write Memory.read
  split_ifs <;> first | rfl | simp_all [cellsRead_write_other]

/-- The empty buffer is in canonical form and holds no byte. -/
@[simp] theorem empty_wf : Memory.empty.wf = true := rfl

@[simp] theorem empty_read (a : Nat) : Memory.empty.read a = none := rfl

theorem cellsOfBytes_wf (bs : List Byte) (a len : Nat) (h : a + bs.length ≤ len) :
    cellsWf a len (cellsOfBytes a bs) = true := by
  induction bs generalizing a with
  | nil => rfl
  | cons v vs ih =>
    simp only [List.length_cons] at h
    have hrest := ih (a + 1) (by omega)
    unfold cellsOfBytes
    split_ifs with hv
    · exact cellsWf_weaken hrest (by omega)
    · simp [cellsWf, hv, hrest]; omega

/-- A loaded buffer is in canonical form. -/
theorem ofBytes_wf (bs : List Byte) : (Memory.ofBytes bs).wf = true :=
  cellsOfBytes_wf bs 0 bs.length (by omega)

theorem cellsRead_ofBytes_below (bs : List Byte) {a c : Nat} (h : c < a) :
    cellsRead (cellsOfBytes a bs) c = unlistedByte :=
  cellsRead_below (cellsOfBytes_wf bs a _ le_rfl) h

theorem cellsRead_ofBytes (bs : List Byte) (a k : Nat) (h : k < bs.length) :
    cellsRead (cellsOfBytes a bs) (a + k) = bs[k] := by
  induction bs generalizing a k with
  | nil => simp at h
  | cons v vs ih =>
    cases k with
    | zero =>
      unfold cellsOfBytes
      split_ifs with hv
      · simp [hv, cellsRead_ofBytes_below vs (Nat.lt_succ_self a)]
      · simp [cellsRead]
    | succ k =>
      have hk : k < vs.length := by simpa using h
      have e : a + (k + 1) = (a + 1) + k := by omega
      unfold cellsOfBytes
      split_ifs with hv
      · simp only [e, List.getElem_cons_succ]; exact ih (a + 1) k hk
      · have hne : a ≠ a + (k + 1) := by omega
        simp only [cellsRead, hne, if_false, List.getElem_cons_succ]
        rw [e]; exact ih (a + 1) k hk

/-- A loaded buffer holds its byte string and nothing past it. -/
theorem ofBytes_read (bs : List Byte) (k : Nat) : (Memory.ofBytes bs).read k = bs[k]? := by
  unfold Memory.read Memory.ofBytes
  by_cases h : k < bs.length
  · have := cellsRead_ofBytes bs 0 k h
    simp only [Nat.zero_add] at this
    simp [h, this]
  · simp [h]

end Sys2Proof.Laws
end

