-- ==== Sys2Proof/Laws/Ops.lean ====
section
/-! SUPPORT. What operand assembly can do (spec R260 to R278), said once: the provers cite these instead of unfolding
`answer`. -/

namespace Sys2Proof.Laws

open Sys2Proof.Machine

/-- The record that `answer` assembles in a transaction. -/
def answerRecord (s : State) (q : Request) (t : Txn) (y : Body) (p : Prefix) (m : Option ModRM)
    (ops : Env → List Operand) : Instruction :=
  let e := envOf q t y p (m.getD ModRM.zero)
  recordOf s.params y e (ops e)

/-- In a transaction, `answer` takes the failure exit when the LOCK check fails and responds with its record otherwise. -/
theorem answer_inTxn {s : State} {q : Request} {t : Txn} (h : InTxn s q t) (y : Body) (p : Prefix) (m : Option ModRM)
    (ops : Env → List Operand) :
    answer y p m ops s =
      .next (done s (if lockRefused y p (answerRecord s q t y p m ops) then .fail .InvalidLockUsage
        else .ok (answerRecord s q t y p m ops))) := by
  obtain ⟨hq, ht⟩ := h
  unfold answer
  rw [hq, ht]
  simp only [conclude, State.withTxn, assembled]
  split <;> rename_i hl <;> simp only [answerRecord, hl, if_true] <;> rfl

/-- Everything `answer` can do. -/
theorem answer_cases (y : Body) (p : Prefix) (m : Option ModRM) (ops : Env → List Operand) (s : State) :
    (∃ q t, InTxn s q t ∧ answer y p m ops s =
        .next (done s (if lockRefused y p (answerRecord s q t y p m ops) then .fail .InvalidLockUsage
          else .ok (answerRecord s q t y p m ops))))
      ∨ ((s.request = none ∨ s.txn = none) ∧ answer y p m ops s = .fault .noTransaction) := by
  cases hq : s.request with
  | none => exact .inr ⟨.inl rfl, by simp [answer, hq]⟩
  | some q => cases ht : s.txn with
    | none => exact .inr ⟨.inr rfl, by simp [answer, hq, ht]⟩
    | some t => exact .inl ⟨q, t, ⟨hq, ht⟩, answer_inTxn ⟨hq, ht⟩ y p m ops⟩

/-- If `answer` answers a next state, that state is the transaction done with one response. -/
theorem answer_next {y : Body} {p : Prefix} {m : Option ModRM} {ops : Env → List Operand} {s s' : State}
    (h : answer y p m ops s = .next s') : ∃ r, s' = done s r := by
  rcases answer_cases y p m ops s with ⟨q, t, -, e⟩ | ⟨-, e⟩
  · rw [e] at h; cases h; exact ⟨_, rfl⟩
  · rw [e] at h; cases h

/-- `answer` never refuses. -/
theorem answer_ne_refused (y : Body) (p : Prefix) (m : Option ModRM) (ops : Env → List Operand) (s : State)
    (r : Refusal) : answer y p m ops s ≠ .refused r := by
  rcases answer_cases y p m ops s with ⟨q, t, -, e⟩ | ⟨-, e⟩ <;> rw [e] <;> simp

/-- The operand slots are four (R33). -/
@[simp] theorem operandSlots_length (ops : List Operand) : (operandSlots ops).length = maxOperands := by
  simp [operandSlots, maxOperands]

/-- The first slot is the first operand. -/
@[simp] theorem operandSlots_headD (o : Operand) (ops : List Operand) :
    (operandSlots (o :: ops)).headD .none = o := rfl

end Sys2Proof.Laws
end

