-- ==== Sys2Proof/Laws/PerInstr.lean ====
section
/-! SUPPORT. For every instruction: the fields that the encoder writes build the instruction again (spec R30, R31). -/

namespace Sys2Proof.Laws.BuildFields

/-- No operand field is lost between an instruction and the fields of its encoding. -/
def Statement (i : Instr) : Prop := Instr.build i.fields = i

theorem add_rm8_r8 (p : LegacyPrefix) (m : ModRM) : Statement (.add_rm8_r8 p m) := rfl
theorem add_rm16_r16 (p : LegacyPrefix) (m : ModRM) : Statement (.add_rm16_r16 p m) := rfl
theorem add_rm32_r32 (p : LegacyPrefix) (m : ModRM) : Statement (.add_rm32_r32 p m) := rfl
theorem add_rm64_r64 (p : LegacyPrefix) (m : ModRM) : Statement (.add_rm64_r64 p m) := rfl
theorem add_r8_rm8 (p : LegacyPrefix) (m : ModRM) : Statement (.add_r8_rm8 p m) := rfl
theorem add_r16_rm16 (p : LegacyPrefix) (m : ModRM) : Statement (.add_r16_rm16 p m) := rfl
theorem add_r32_rm32 (p : LegacyPrefix) (m : ModRM) : Statement (.add_r32_rm32 p m) := rfl
theorem add_r64_rm64 (p : LegacyPrefix) (m : ModRM) : Statement (.add_r64_rm64 p m) := rfl
theorem add_AL_imm8 (p : LegacyPrefix) (imm : BitVec 8) : Statement (.add_AL_imm8 p imm) := congrArg (Instr.add_AL_imm8 p) (leBits_leBytes8 imm)
theorem add_AX_imm16 (p : LegacyPrefix) (imm : BitVec 16) : Statement (.add_AX_imm16 p imm) := congrArg (Instr.add_AX_imm16 p) (leBits_leBytes16 imm)
theorem add_EAX_imm32 (p : LegacyPrefix) (imm : BitVec 32) : Statement (.add_EAX_imm32 p imm) := congrArg (Instr.add_EAX_imm32 p) (leBits_leBytes32 imm)
theorem add_RAX_imm32 (p : LegacyPrefix) (imm : BitVec 32) : Statement (.add_RAX_imm32 p imm) := congrArg (Instr.add_RAX_imm32 p) (leBits_leBytes32 imm)
theorem daa (p : LegacyPrefix) : Statement (.daa p) := rfl
theorem inc_r16 (p : LegacyPrefix) (low : BitVec 3) : Statement (.inc_r16 p low) := rfl
theorem inc_r32 (p : LegacyPrefix) (low : BitVec 3) : Statement (.inc_r32 p low) := rfl
theorem dec_r16 (p : LegacyPrefix) (low : BitVec 3) : Statement (.dec_r16 p low) := rfl
theorem dec_r32 (p : LegacyPrefix) (low : BitVec 3) : Statement (.dec_r32 p low) := rfl
theorem bound_r16_m1616 (p : LegacyPrefix) (m : ModRM) : Statement (.bound_r16_m1616 p m) := rfl
theorem bound_r32_m3232 (p : LegacyPrefix) (m : ModRM) : Statement (.bound_r32_m3232 p m) := rfl
theorem je_rel8_16 (p : LegacyPrefix) (rel : BitVec 8) : Statement (.je_rel8_16 p rel) := congrArg (Instr.je_rel8_16 p) (leBits_leBytes8 rel)
theorem je_rel8_32 (p : LegacyPrefix) (rel : BitVec 8) : Statement (.je_rel8_32 p rel) := congrArg (Instr.je_rel8_32 p) (leBits_leBytes8 rel)
theorem je_rel8_64 (p : LegacyPrefix) (rel : BitVec 8) : Statement (.je_rel8_64 p rel) := congrArg (Instr.je_rel8_64 p) (leBits_leBytes8 rel)
theorem add_rm8_imm8 (p : LegacyPrefix) (m : ModRM) (imm : BitVec 8) : Statement (.add_rm8_imm8 p m imm) := congrArg (Instr.add_rm8_imm8 p m) (leBits_leBytes8 imm)
theorem cmp_rm8_imm8 (p : LegacyPrefix) (m : ModRM) (imm : BitVec 8) : Statement (.cmp_rm8_imm8 p m imm) := congrArg (Instr.cmp_rm8_imm8 p m) (leBits_leBytes8 imm)
theorem add_rm16_imm16 (p : LegacyPrefix) (m : ModRM) (imm : BitVec 16) : Statement (.add_rm16_imm16 p m imm) := congrArg (Instr.add_rm16_imm16 p m) (leBits_leBytes16 imm)
theorem add_rm32_imm32 (p : LegacyPrefix) (m : ModRM) (imm : BitVec 32) : Statement (.add_rm32_imm32 p m imm) := congrArg (Instr.add_rm32_imm32 p m) (leBits_leBytes32 imm)
theorem add_rm64_imm32 (p : LegacyPrefix) (m : ModRM) (imm : BitVec 32) : Statement (.add_rm64_imm32 p m imm) := congrArg (Instr.add_rm64_imm32 p m) (leBits_leBytes32 imm)
theorem cmp_rm16_imm16 (p : LegacyPrefix) (m : ModRM) (imm : BitVec 16) : Statement (.cmp_rm16_imm16 p m imm) := congrArg (Instr.cmp_rm16_imm16 p m) (leBits_leBytes16 imm)
theorem cmp_rm32_imm32 (p : LegacyPrefix) (m : ModRM) (imm : BitVec 32) : Statement (.cmp_rm32_imm32 p m imm) := congrArg (Instr.cmp_rm32_imm32 p m) (leBits_leBytes32 imm)
theorem cmp_rm64_imm32 (p : LegacyPrefix) (m : ModRM) (imm : BitVec 32) : Statement (.cmp_rm64_imm32 p m imm) := congrArg (Instr.cmp_rm64_imm32 p m) (leBits_leBytes32 imm)
theorem add_rm16_imm8 (p : LegacyPrefix) (m : ModRM) (imm : BitVec 8) : Statement (.add_rm16_imm8 p m imm) := congrArg (Instr.add_rm16_imm8 p m) (leBits_leBytes8 imm)
theorem add_rm32_imm8 (p : LegacyPrefix) (m : ModRM) (imm : BitVec 8) : Statement (.add_rm32_imm8 p m imm) := congrArg (Instr.add_rm32_imm8 p m) (leBits_leBytes8 imm)
theorem add_rm64_imm8 (p : LegacyPrefix) (m : ModRM) (imm : BitVec 8) : Statement (.add_rm64_imm8 p m imm) := congrArg (Instr.add_rm64_imm8 p m) (leBits_leBytes8 imm)
theorem cmp_rm16_imm8 (p : LegacyPrefix) (m : ModRM) (imm : BitVec 8) : Statement (.cmp_rm16_imm8 p m imm) := congrArg (Instr.cmp_rm16_imm8 p m) (leBits_leBytes8 imm)
theorem cmp_rm32_imm8 (p : LegacyPrefix) (m : ModRM) (imm : BitVec 8) : Statement (.cmp_rm32_imm8 p m imm) := congrArg (Instr.cmp_rm32_imm8 p m) (leBits_leBytes8 imm)
theorem cmp_rm64_imm8 (p : LegacyPrefix) (m : ModRM) (imm : BitVec 8) : Statement (.cmp_rm64_imm8 p m imm) := congrArg (Instr.cmp_rm64_imm8 p m) (leBits_leBytes8 imm)
theorem mov_rm8_r8 (p : LegacyPrefix) (m : ModRM) : Statement (.mov_rm8_r8 p m) := rfl
theorem mov_rm16_r16 (p : LegacyPrefix) (m : ModRM) : Statement (.mov_rm16_r16 p m) := rfl
theorem mov_rm32_r32 (p : LegacyPrefix) (m : ModRM) : Statement (.mov_rm32_r32 p m) := rfl
theorem mov_rm64_r64 (p : LegacyPrefix) (m : ModRM) : Statement (.mov_rm64_r64 p m) := rfl
theorem mov_r8_rm8 (p : LegacyPrefix) (m : ModRM) : Statement (.mov_r8_rm8 p m) := rfl
theorem mov_r16_rm16 (p : LegacyPrefix) (m : ModRM) : Statement (.mov_r16_rm16 p m) := rfl
theorem mov_r32_rm32 (p : LegacyPrefix) (m : ModRM) : Statement (.mov_r32_rm32 p m) := rfl
theorem mov_r64_rm64 (p : LegacyPrefix) (m : ModRM) : Statement (.mov_r64_rm64 p m) := rfl
theorem lea_r16_m (p : LegacyPrefix) (m : ModRM) : Statement (.lea_r16_m p m) := rfl
theorem lea_r32_m (p : LegacyPrefix) (m : ModRM) : Statement (.lea_r32_m p m) := rfl
theorem lea_r64_m (p : LegacyPrefix) (m : ModRM) : Statement (.lea_r64_m p m) := rfl
theorem mov_AL_moffs8 (p : LegacyPrefix) (a : Moffs) : Statement (.mov_AL_moffs8 p a) := congrArg (Instr.mov_AL_moffs8 p) (moffs_ofBytes_bytes a)
theorem mov_AX_moffs16 (p : LegacyPrefix) (a : Moffs) : Statement (.mov_AX_moffs16 p a) := congrArg (Instr.mov_AX_moffs16 p) (moffs_ofBytes_bytes a)
theorem mov_EAX_moffs32 (p : LegacyPrefix) (a : Moffs) : Statement (.mov_EAX_moffs32 p a) := congrArg (Instr.mov_EAX_moffs32 p) (moffs_ofBytes_bytes a)
theorem mov_RAX_moffs64 (p : LegacyPrefix) (a : Moffs) : Statement (.mov_RAX_moffs64 p a) := congrArg (Instr.mov_RAX_moffs64 p) (moffs_ofBytes_bytes a)
theorem mov_moffs8_AL (p : LegacyPrefix) (a : Moffs) : Statement (.mov_moffs8_AL p a) := congrArg (Instr.mov_moffs8_AL p) (moffs_ofBytes_bytes a)
theorem mov_moffs16_AX (p : LegacyPrefix) (a : Moffs) : Statement (.mov_moffs16_AX p a) := congrArg (Instr.mov_moffs16_AX p) (moffs_ofBytes_bytes a)
theorem mov_moffs32_EAX (p : LegacyPrefix) (a : Moffs) : Statement (.mov_moffs32_EAX p a) := congrArg (Instr.mov_moffs32_EAX p) (moffs_ofBytes_bytes a)
theorem mov_moffs64_RAX (p : LegacyPrefix) (a : Moffs) : Statement (.mov_moffs64_RAX p a) := congrArg (Instr.mov_moffs64_RAX p) (moffs_ofBytes_bytes a)
theorem mov_r8_imm8 (p : LegacyPrefix) (low : BitVec 3) (imm : BitVec 8) : Statement (.mov_r8_imm8 p low imm) := congrArg (Instr.mov_r8_imm8 p low) (leBits_leBytes8 imm)
theorem mov_r16_imm16 (p : LegacyPrefix) (low : BitVec 3) (imm : BitVec 16) : Statement (.mov_r16_imm16 p low imm) := congrArg (Instr.mov_r16_imm16 p low) (leBits_leBytes16 imm)
theorem mov_r32_imm32 (p : LegacyPrefix) (low : BitVec 3) (imm : BitVec 32) : Statement (.mov_r32_imm32 p low imm) := congrArg (Instr.mov_r32_imm32 p low) (leBits_leBytes32 imm)
theorem mov_r64_imm64 (p : LegacyPrefix) (low : BitVec 3) (imm : BitVec 64) : Statement (.mov_r64_imm64 p low imm) := congrArg (Instr.mov_r64_imm64 p low) (leBits_leBytes64 imm)
theorem les_r16_m1616 (p : LegacyPrefix) (m : ModRM) : Statement (.les_r16_m1616 p m) := rfl
theorem les_r32_m1632 (p : LegacyPrefix) (m : ModRM) : Statement (.les_r32_m1632 p m) := rfl
theorem lds_r16_m1616 (p : LegacyPrefix) (m : ModRM) : Statement (.lds_r16_m1616 p m) := rfl
theorem lds_r32_m1632 (p : LegacyPrefix) (m : ModRM) : Statement (.lds_r32_m1632 p m) := rfl
theorem int3 (p : LegacyPrefix) : Statement (.int3 p) := rfl
theorem call_rel16 (p : LegacyPrefix) (rel : BitVec 16) : Statement (.call_rel16 p rel) := congrArg (Instr.call_rel16 p) (leBits_leBytes16 rel)
theorem call_rel32_32 (p : LegacyPrefix) (rel : BitVec 32) : Statement (.call_rel32_32 p rel) := congrArg (Instr.call_rel32_32 p) (leBits_leBytes32 rel)
theorem call_rel32_64 (p : LegacyPrefix) (rel : BitVec 32) : Statement (.call_rel32_64 p rel) := congrArg (Instr.call_rel32_64 p) (leBits_leBytes32 rel)
theorem jmp_rel16 (p : LegacyPrefix) (rel : BitVec 16) : Statement (.jmp_rel16 p rel) := congrArg (Instr.jmp_rel16 p) (leBits_leBytes16 rel)
theorem jmp_rel32_32 (p : LegacyPrefix) (rel : BitVec 32) : Statement (.jmp_rel32_32 p rel) := congrArg (Instr.jmp_rel32_32 p) (leBits_leBytes32 rel)
theorem jmp_rel32_64 (p : LegacyPrefix) (rel : BitVec 32) : Statement (.jmp_rel32_64 p rel) := congrArg (Instr.jmp_rel32_64 p) (leBits_leBytes32 rel)
theorem jmp_rel8_16 (p : LegacyPrefix) (rel : BitVec 8) : Statement (.jmp_rel8_16 p rel) := congrArg (Instr.jmp_rel8_16 p) (leBits_leBytes8 rel)
theorem jmp_rel8_32 (p : LegacyPrefix) (rel : BitVec 8) : Statement (.jmp_rel8_32 p rel) := congrArg (Instr.jmp_rel8_32 p) (leBits_leBytes8 rel)
theorem jmp_rel8_64 (p : LegacyPrefix) (rel : BitVec 8) : Statement (.jmp_rel8_64 p rel) := congrArg (Instr.jmp_rel8_64 p) (leBits_leBytes8 rel)
theorem hlt (p : LegacyPrefix) : Statement (.hlt p) := rfl
theorem inc_rm8 (p : LegacyPrefix) (m : ModRM) : Statement (.inc_rm8 p m) := rfl
theorem dec_rm8 (p : LegacyPrefix) (m : ModRM) : Statement (.dec_rm8 p m) := rfl
theorem inc_rm16 (p : LegacyPrefix) (m : ModRM) : Statement (.inc_rm16 p m) := rfl
theorem inc_rm32 (p : LegacyPrefix) (m : ModRM) : Statement (.inc_rm32 p m) := rfl
theorem inc_rm64 (p : LegacyPrefix) (m : ModRM) : Statement (.inc_rm64 p m) := rfl
theorem dec_rm16 (p : LegacyPrefix) (m : ModRM) : Statement (.dec_rm16 p m) := rfl
theorem dec_rm32 (p : LegacyPrefix) (m : ModRM) : Statement (.dec_rm32 p m) := rfl
theorem dec_rm64 (p : LegacyPrefix) (m : ModRM) : Statement (.dec_rm64 p m) := rfl
theorem syscall (p : LegacyPrefix) : Statement (.syscall p) := rfl
theorem addps_xmm_xmmm128 (p : LegacyPrefix) (m : ModRM) : Statement (.addps_xmm_xmmm128 p m) := rfl
theorem addpd_xmm_xmmm128 (p : LegacyPrefix) (m : ModRM) : Statement (.addpd_xmm_xmmm128 p m) := rfl
theorem addss_xmm_xmmm32 (p : LegacyPrefix) (m : ModRM) : Statement (.addss_xmm_xmmm32 p m) := rfl
theorem addsd_xmm_xmmm64 (p : LegacyPrefix) (m : ModRM) : Statement (.addsd_xmm_xmmm64 p m) := rfl
theorem punpcklbw_mm_mmm32 (p : LegacyPrefix) (m : ModRM) : Statement (.punpcklbw_mm_mmm32 p m) := rfl
theorem punpcklbw_xmm_xmmm128 (p : LegacyPrefix) (m : ModRM) : Statement (.punpcklbw_xmm_xmmm128 p m) := rfl
theorem punpcklwd_mm_mmm32 (p : LegacyPrefix) (m : ModRM) : Statement (.punpcklwd_mm_mmm32 p m) := rfl
theorem punpcklwd_xmm_xmmm128 (p : LegacyPrefix) (m : ModRM) : Statement (.punpcklwd_xmm_xmmm128 p m) := rfl
theorem punpckldq_mm_mmm32 (p : LegacyPrefix) (m : ModRM) : Statement (.punpckldq_mm_mmm32 p m) := rfl
theorem punpckldq_xmm_xmmm128 (p : LegacyPrefix) (m : ModRM) : Statement (.punpckldq_xmm_xmmm128 p m) := rfl
theorem packsswb_mm_mmm64 (p : LegacyPrefix) (m : ModRM) : Statement (.packsswb_mm_mmm64 p m) := rfl
theorem packsswb_xmm_xmmm128 (p : LegacyPrefix) (m : ModRM) : Statement (.packsswb_xmm_xmmm128 p m) := rfl
theorem pcmpgtb_mm_mmm64 (p : LegacyPrefix) (m : ModRM) : Statement (.pcmpgtb_mm_mmm64 p m) := rfl
theorem pcmpgtb_xmm_xmmm128 (p : LegacyPrefix) (m : ModRM) : Statement (.pcmpgtb_xmm_xmmm128 p m) := rfl
theorem pcmpgtw_mm_mmm64 (p : LegacyPrefix) (m : ModRM) : Statement (.pcmpgtw_mm_mmm64 p m) := rfl
theorem pcmpgtw_xmm_xmmm128 (p : LegacyPrefix) (m : ModRM) : Statement (.pcmpgtw_xmm_xmmm128 p m) := rfl
theorem pcmpgtd_mm_mmm64 (p : LegacyPrefix) (m : ModRM) : Statement (.pcmpgtd_mm_mmm64 p m) := rfl
theorem pcmpgtd_xmm_xmmm128 (p : LegacyPrefix) (m : ModRM) : Statement (.pcmpgtd_xmm_xmmm128 p m) := rfl
theorem packuswb_mm_mmm64 (p : LegacyPrefix) (m : ModRM) : Statement (.packuswb_mm_mmm64 p m) := rfl
theorem packuswb_xmm_xmmm128 (p : LegacyPrefix) (m : ModRM) : Statement (.packuswb_xmm_xmmm128 p m) := rfl
theorem movd_mm_rm32 (p : LegacyPrefix) (m : ModRM) : Statement (.movd_mm_rm32 p m) := rfl
theorem movq_mm_rm64 (p : LegacyPrefix) (m : ModRM) : Statement (.movq_mm_rm64 p m) := rfl
theorem movd_xmm_rm32 (p : LegacyPrefix) (m : ModRM) : Statement (.movd_xmm_rm32 p m) := rfl
theorem movq_xmm_rm64 (p : LegacyPrefix) (m : ModRM) : Statement (.movq_xmm_rm64 p m) := rfl
theorem je_rel16 (p : LegacyPrefix) (rel : BitVec 16) : Statement (.je_rel16 p rel) := congrArg (Instr.je_rel16 p) (leBits_leBytes16 rel)
theorem je_rel32_32 (p : LegacyPrefix) (rel : BitVec 32) : Statement (.je_rel32_32 p rel) := congrArg (Instr.je_rel32_32 p) (leBits_leBytes32 rel)
theorem je_rel32_64 (p : LegacyPrefix) (rel : BitVec 32) : Statement (.je_rel32_64 p rel) := congrArg (Instr.je_rel32_64 p) (leBits_leBytes32 rel)
theorem fxsave_m512byte (p : LegacyPrefix) (m : ModRM) : Statement (.fxsave_m512byte p m) := rfl
theorem fxsave64_m512byte (p : LegacyPrefix) (m : ModRM) : Statement (.fxsave64_m512byte p m) := rfl
theorem fxrstor_m512byte (p : LegacyPrefix) (m : ModRM) : Statement (.fxrstor_m512byte p m) := rfl
theorem fxrstor64_m512byte (p : LegacyPrefix) (m : ModRM) : Statement (.fxrstor64_m512byte p m) := rfl
theorem ldmxcsr_m32 (p : LegacyPrefix) (m : ModRM) : Statement (.ldmxcsr_m32 p m) := rfl
theorem stmxcsr_m32 (p : LegacyPrefix) (m : ModRM) : Statement (.stmxcsr_m32 p m) := rfl
theorem clflush_m8 (p : LegacyPrefix) (m : ModRM) : Statement (.clflush_m8 p m) := rfl
theorem lfence (p : LegacyPrefix) (m : ModRM) : Statement (.lfence p m) := rfl
theorem mfence (p : LegacyPrefix) (m : ModRM) : Statement (.mfence p m) := rfl
theorem sfence (p : LegacyPrefix) (m : ModRM) : Statement (.sfence p m) := rfl
theorem vex_vaddps_xmm_xmm_xmmm128 (p : VexPrefix) (m : ModRM) : Statement (.vex_vaddps_xmm_xmm_xmmm128 p m) := rfl
theorem vex_vaddps_ymm_ymm_ymmm256 (p : VexPrefix) (m : ModRM) : Statement (.vex_vaddps_ymm_ymm_ymmm256 p m) := rfl
theorem vex_vaddpd_xmm_xmm_xmmm128 (p : VexPrefix) (m : ModRM) : Statement (.vex_vaddpd_xmm_xmm_xmmm128 p m) := rfl
theorem vex_vaddpd_ymm_ymm_ymmm256 (p : VexPrefix) (m : ModRM) : Statement (.vex_vaddpd_ymm_ymm_ymmm256 p m) := rfl
theorem vex_vaddss_xmm_xmm_xmmm32 (p : VexPrefix) (m : ModRM) : Statement (.vex_vaddss_xmm_xmm_xmmm32 p m) := rfl
theorem vex_vaddsd_xmm_xmm_xmmm64 (p : VexPrefix) (m : ModRM) : Statement (.vex_vaddsd_xmm_xmm_xmmm64 p m) := rfl
theorem vex_vpunpcklbw_xmm_xmm_xmmm128 (p : VexPrefix) (m : ModRM) : Statement (.vex_vpunpcklbw_xmm_xmm_xmmm128 p m) := rfl
theorem vex_vpunpcklbw_ymm_ymm_ymmm256 (p : VexPrefix) (m : ModRM) : Statement (.vex_vpunpcklbw_ymm_ymm_ymmm256 p m) := rfl
theorem vex_vpunpcklwd_xmm_xmm_xmmm128 (p : VexPrefix) (m : ModRM) : Statement (.vex_vpunpcklwd_xmm_xmm_xmmm128 p m) := rfl
theorem vex_vpunpcklwd_ymm_ymm_ymmm256 (p : VexPrefix) (m : ModRM) : Statement (.vex_vpunpcklwd_ymm_ymm_ymmm256 p m) := rfl
theorem vex_vpunpckldq_xmm_xmm_xmmm128 (p : VexPrefix) (m : ModRM) : Statement (.vex_vpunpckldq_xmm_xmm_xmmm128 p m) := rfl
theorem vex_vpunpckldq_ymm_ymm_ymmm256 (p : VexPrefix) (m : ModRM) : Statement (.vex_vpunpckldq_ymm_ymm_ymmm256 p m) := rfl
theorem vex_vpacksswb_xmm_xmm_xmmm128 (p : VexPrefix) (m : ModRM) : Statement (.vex_vpacksswb_xmm_xmm_xmmm128 p m) := rfl
theorem vex_vpacksswb_ymm_ymm_ymmm256 (p : VexPrefix) (m : ModRM) : Statement (.vex_vpacksswb_ymm_ymm_ymmm256 p m) := rfl
theorem vex_vpcmpgtb_xmm_xmm_xmmm128 (p : VexPrefix) (m : ModRM) : Statement (.vex_vpcmpgtb_xmm_xmm_xmmm128 p m) := rfl
theorem vex_vpcmpgtb_ymm_ymm_ymmm256 (p : VexPrefix) (m : ModRM) : Statement (.vex_vpcmpgtb_ymm_ymm_ymmm256 p m) := rfl
theorem vex_vpcmpgtw_xmm_xmm_xmmm128 (p : VexPrefix) (m : ModRM) : Statement (.vex_vpcmpgtw_xmm_xmm_xmmm128 p m) := rfl
theorem vex_vpcmpgtw_ymm_ymm_ymmm256 (p : VexPrefix) (m : ModRM) : Statement (.vex_vpcmpgtw_ymm_ymm_ymmm256 p m) := rfl
theorem vex_vpcmpgtd_xmm_xmm_xmmm128 (p : VexPrefix) (m : ModRM) : Statement (.vex_vpcmpgtd_xmm_xmm_xmmm128 p m) := rfl
theorem vex_vpcmpgtd_ymm_ymm_ymmm256 (p : VexPrefix) (m : ModRM) : Statement (.vex_vpcmpgtd_ymm_ymm_ymmm256 p m) := rfl
theorem vex_vpackuswb_xmm_xmm_xmmm128 (p : VexPrefix) (m : ModRM) : Statement (.vex_vpackuswb_xmm_xmm_xmmm128 p m) := rfl
theorem vex_vpackuswb_ymm_ymm_ymmm256 (p : VexPrefix) (m : ModRM) : Statement (.vex_vpackuswb_ymm_ymm_ymmm256 p m) := rfl
theorem evex_vaddps_xmm_k1z_xmm_xmmm128b32 (p : EvexPrefix) (m : ModRM) : Statement (.evex_vaddps_xmm_k1z_xmm_xmmm128b32 p m) := rfl
theorem evex_vaddps_ymm_k1z_ymm_ymmm256b32 (p : EvexPrefix) (m : ModRM) : Statement (.evex_vaddps_ymm_k1z_ymm_ymmm256b32 p m) := rfl
theorem evex_vaddps_zmm_k1z_zmm_zmmm512b32_er (p : EvexPrefix) (m : ModRM) : Statement (.evex_vaddps_zmm_k1z_zmm_zmmm512b32_er p m) := rfl
theorem evex_vaddpd_xmm_k1z_xmm_xmmm128b64 (p : EvexPrefix) (m : ModRM) : Statement (.evex_vaddpd_xmm_k1z_xmm_xmmm128b64 p m) := rfl
theorem evex_vaddpd_ymm_k1z_ymm_ymmm256b64 (p : EvexPrefix) (m : ModRM) : Statement (.evex_vaddpd_ymm_k1z_ymm_ymmm256b64 p m) := rfl
theorem evex_vaddpd_zmm_k1z_zmm_zmmm512b64_er (p : EvexPrefix) (m : ModRM) : Statement (.evex_vaddpd_zmm_k1z_zmm_zmmm512b64_er p m) := rfl
theorem evex_vaddss_xmm_k1z_xmm_xmmm32_er (p : EvexPrefix) (m : ModRM) : Statement (.evex_vaddss_xmm_k1z_xmm_xmmm32_er p m) := rfl
theorem evex_vaddsd_xmm_k1z_xmm_xmmm64_er (p : EvexPrefix) (m : ModRM) : Statement (.evex_vaddsd_xmm_k1z_xmm_xmmm64_er p m) := rfl
theorem evex_vmaxps_xmm_k1z_xmm_xmmm128b32 (p : EvexPrefix) (m : ModRM) : Statement (.evex_vmaxps_xmm_k1z_xmm_xmmm128b32 p m) := rfl
theorem evex_vmaxps_ymm_k1z_ymm_ymmm256b32 (p : EvexPrefix) (m : ModRM) : Statement (.evex_vmaxps_ymm_k1z_ymm_ymmm256b32 p m) := rfl
theorem evex_vmaxps_zmm_k1z_zmm_zmmm512b32_sae (p : EvexPrefix) (m : ModRM) : Statement (.evex_vmaxps_zmm_k1z_zmm_zmmm512b32_sae p m) := rfl
theorem evex_vpunpcklbw_xmm_k1z_xmm_xmmm128 (p : EvexPrefix) (m : ModRM) : Statement (.evex_vpunpcklbw_xmm_k1z_xmm_xmmm128 p m) := rfl
theorem evex_vpunpcklbw_ymm_k1z_ymm_ymmm256 (p : EvexPrefix) (m : ModRM) : Statement (.evex_vpunpcklbw_ymm_k1z_ymm_ymmm256 p m) := rfl
theorem evex_vpunpcklbw_zmm_k1z_zmm_zmmm512 (p : EvexPrefix) (m : ModRM) : Statement (.evex_vpunpcklbw_zmm_k1z_zmm_zmmm512 p m) := rfl
theorem evex_vpunpcklwd_xmm_k1z_xmm_xmmm128 (p : EvexPrefix) (m : ModRM) : Statement (.evex_vpunpcklwd_xmm_k1z_xmm_xmmm128 p m) := rfl
theorem evex_vpunpcklwd_ymm_k1z_ymm_ymmm256 (p : EvexPrefix) (m : ModRM) : Statement (.evex_vpunpcklwd_ymm_k1z_ymm_ymmm256 p m) := rfl
theorem evex_vpunpcklwd_zmm_k1z_zmm_zmmm512 (p : EvexPrefix) (m : ModRM) : Statement (.evex_vpunpcklwd_zmm_k1z_zmm_zmmm512 p m) := rfl
theorem evex_vpunpckldq_xmm_k1z_xmm_xmmm128b32 (p : EvexPrefix) (m : ModRM) : Statement (.evex_vpunpckldq_xmm_k1z_xmm_xmmm128b32 p m) := rfl
theorem evex_vpunpckldq_ymm_k1z_ymm_ymmm256b32 (p : EvexPrefix) (m : ModRM) : Statement (.evex_vpunpckldq_ymm_k1z_ymm_ymmm256b32 p m) := rfl
theorem evex_vpunpckldq_zmm_k1z_zmm_zmmm512b32 (p : EvexPrefix) (m : ModRM) : Statement (.evex_vpunpckldq_zmm_k1z_zmm_zmmm512b32 p m) := rfl
theorem evex_vpacksswb_xmm_k1z_xmm_xmmm128 (p : EvexPrefix) (m : ModRM) : Statement (.evex_vpacksswb_xmm_k1z_xmm_xmmm128 p m) := rfl
theorem evex_vpacksswb_ymm_k1z_ymm_ymmm256 (p : EvexPrefix) (m : ModRM) : Statement (.evex_vpacksswb_ymm_k1z_ymm_ymmm256 p m) := rfl
theorem evex_vpacksswb_zmm_k1z_zmm_zmmm512 (p : EvexPrefix) (m : ModRM) : Statement (.evex_vpacksswb_zmm_k1z_zmm_zmmm512 p m) := rfl
theorem evex_vpcmpgtb_k_k1_xmm_xmmm128 (p : EvexPrefix) (m : ModRM) : Statement (.evex_vpcmpgtb_k_k1_xmm_xmmm128 p m) := rfl
theorem evex_vpcmpgtb_k_k1_ymm_ymmm256 (p : EvexPrefix) (m : ModRM) : Statement (.evex_vpcmpgtb_k_k1_ymm_ymmm256 p m) := rfl
theorem evex_vpcmpgtb_k_k1_zmm_zmmm512 (p : EvexPrefix) (m : ModRM) : Statement (.evex_vpcmpgtb_k_k1_zmm_zmmm512 p m) := rfl
theorem evex_vpcmpgtw_k_k1_xmm_xmmm128 (p : EvexPrefix) (m : ModRM) : Statement (.evex_vpcmpgtw_k_k1_xmm_xmmm128 p m) := rfl
theorem evex_vpcmpgtw_k_k1_ymm_ymmm256 (p : EvexPrefix) (m : ModRM) : Statement (.evex_vpcmpgtw_k_k1_ymm_ymmm256 p m) := rfl
theorem evex_vpcmpgtw_k_k1_zmm_zmmm512 (p : EvexPrefix) (m : ModRM) : Statement (.evex_vpcmpgtw_k_k1_zmm_zmmm512 p m) := rfl
theorem evex_vpcmpgtd_k_k1_xmm_xmmm128b32 (p : EvexPrefix) (m : ModRM) : Statement (.evex_vpcmpgtd_k_k1_xmm_xmmm128b32 p m) := rfl
theorem evex_vpcmpgtd_k_k1_ymm_ymmm256b32 (p : EvexPrefix) (m : ModRM) : Statement (.evex_vpcmpgtd_k_k1_ymm_ymmm256b32 p m) := rfl
theorem evex_vpcmpgtd_k_k1_zmm_zmmm512b32 (p : EvexPrefix) (m : ModRM) : Statement (.evex_vpcmpgtd_k_k1_zmm_zmmm512b32 p m) := rfl
theorem evex_vpackuswb_xmm_k1z_xmm_xmmm128 (p : EvexPrefix) (m : ModRM) : Statement (.evex_vpackuswb_xmm_k1z_xmm_xmmm128 p m) := rfl
theorem evex_vpackuswb_ymm_k1z_ymm_ymmm256 (p : EvexPrefix) (m : ModRM) : Statement (.evex_vpackuswb_ymm_k1z_ymm_ymmm256 p m) := rfl
theorem evex_vpackuswb_zmm_k1z_zmm_zmmm512 (p : EvexPrefix) (m : ModRM) : Statement (.evex_vpackuswb_zmm_k1z_zmm_zmmm512 p m) := rfl
theorem evex_vmovdqa32_xmm_k1z_xmmm128 (p : EvexPrefix) (m : ModRM) : Statement (.evex_vmovdqa32_xmm_k1z_xmmm128 p m) := rfl
theorem evex_vmovdqa32_ymm_k1z_ymmm256 (p : EvexPrefix) (m : ModRM) : Statement (.evex_vmovdqa32_ymm_k1z_ymmm256 p m) := rfl
theorem evex_vmovdqa32_zmm_k1z_zmmm512 (p : EvexPrefix) (m : ModRM) : Statement (.evex_vmovdqa32_zmm_k1z_zmmm512 p m) := rfl
theorem evex_vmovdqa64_xmm_k1z_xmmm128 (p : EvexPrefix) (m : ModRM) : Statement (.evex_vmovdqa64_xmm_k1z_xmmm128 p m) := rfl
theorem evex_vmovdqa64_ymm_k1z_ymmm256 (p : EvexPrefix) (m : ModRM) : Statement (.evex_vmovdqa64_ymm_k1z_ymmm256 p m) := rfl
theorem evex_vmovdqa64_zmm_k1z_zmmm512 (p : EvexPrefix) (m : ModRM) : Statement (.evex_vmovdqa64_zmm_k1z_zmmm512 p m) := rfl

end Sys2Proof.Laws.BuildFields
end

