-- ==== Sys2Proof/Laws/Template.lean ====
section
/-! SUPPORT. What the table, a selected row and the template walk give (spec R6, R30, R260, R317), said once. -/

namespace Sys2Proof.Laws

open Sys2Proof.Machine

@[simp] theorem table_ignore66 (p : Params) (hr : p.rom = .reference) (hb : p.branch66In64 = .ignore66) :
    p.table = templateRom := by simp [Params.table, hr, hb]

@[simp] theorem table_width16 (p : Params) (hr : p.rom = .reference) (hb : p.branch66In64 = .width16) :
    p.table = templateRom16 := by simp [Params.table, hr, hb]

@[simp] theorem table_other (p : Params) (rows : List Row) (hr : p.rom = .other rows) : p.table = rows := by
  simp [Params.table, hr]

/-- The reference row of a code bears that code. -/
@[simp] theorem row_code (c : Code) : c.row.code = .ref c := by cases c <;> rfl

/-- The reference row of a code is a reference row. -/
@[simp] theorem row_isReference (c : Code) : c.row.isReference = true := by
  simp only [Row.isReference, row_code, decide_eq_true_eq]
  cases c <;> rfl

/-- A selected row gives an instruction exactly when it is the reference row of its code up to two keys. -/
theorem decodedOf_instr {r : Row} {f : Parts} {i : Instr} :
    decodedOf r f = .instr i ↔
      ∃ c, r.code = .ref c ∧ r.isReference = true ∧ i = Instr.build { toParts := f, code := c } := by
  unfold decodedOf
  split
  · rename_i c hc
    by_cases h : r.isReference = true <;> simp [h, hc, eq_comm]
  · rename_i n hn
    simp [hn]

/-- A reference row has every field of its code's row but `osz` and `bitness`. -/
theorem isReference_eq {r : Row} {c : Code} (hc : r.code = .ref c) (h : r.isReference = true) :
    { r with osz := c.row.osz, bitness := c.row.bitness } = c.row := by
  simpa [Row.isReference, hc] using h

/-- An instruction that is well formed by its own row is so under parameters whose table has that row. -/
theorem wellFormedIn_of_row {p : Params} {b : Bitness} {i : Instr} (hm : i.row ∈ p.table) (h : WellFormed b i = true) :
    WellFormedIn p b i = true := by
  simp only [WellFormedIn, List.any_eq_true, Bool.and_eq_true, decide_eq_true_eq]
  exact ⟨i.row, hm, ⟨row_code i.code, row_isReference i.code⟩, h⟩

/-- No two rows of an admissible table, at different places, can both pass the dispatcher's tests (R203 (b)). -/
theorem pairwiseDisjoint_iff (rows : List Row) :
    pairwiseDisjoint rows = true ↔ rows.Pairwise fun r r' => bothPass r r' = false := by
  induction rows with
  | nil => simp [pairwiseDisjoint]
  | cons r rs ih => simp [pairwiseDisjoint, ih]

/-- What an admissible table gives: agreement on `has_modrm`, disjoint rows, and the conditions on each row (R203). -/
theorem admissible_iff (rows : List Row) :
    admissible rows = true ↔
      (∀ r ∈ rows, ∀ r' ∈ rows, opcodesOverlap r r' = true → r.hasModrm = r'.hasModrm) ∧
        (rows.Pairwise fun r r' => bothPass r r' = false) ∧ ∀ r ∈ rows, rowAdmissible r = true := by
  simp only [admissible, Bool.and_eq_true, pairwiseDisjoint_iff, List.all_eq_true, and_assoc]
  refine and_congr_left' (forall₄_congr fun r _ r' _ => ?_)
  cases opcodesOverlap r r' <;> simp

/-- An input that the stages before can give, an opcode byte that arrives on it, and a ModRM.reg, that two rows accept, make
them a pair that can both pass (R193 to R197). -/
theorem bothPass_of_input {r r' : Row} {x : KeyInput} {v : Byte} {reg : BitVec 3} (ho : opcodesOverlap r r' = true)
    (hr : r.reg.all (· == reg) = true) (hr' : r'.reg.all (· == reg) = true) (hx : x ∈ keyInputs r.space)
    (hp : r.passes x = true) (hp' : r'.passes x = true) (hv : v ∈ commonOpcodes r r')
    (ha : opcodeArrives r.space r.map (r.hasModrm || r'.hasModrm) x v = true) : bothPass r r' = true := by
  simp only [bothPass, Bool.and_eq_true, List.any_eq_true]
  refine ⟨⟨ho, ?_⟩, x, hx, ⟨hp, hp'⟩, v, hv, ha⟩
  cases h : r.reg <;> cases h' : r'.reg <;> simp_all

/-- A general register of a number below 16 is that number (R38, R39, R45). -/
@[simp] theorem generalNumber_of_lt (bits : Nat) {n : BitVec 5} (h : n.toNat < 16) :
    generalNumber bits n = n.setWidth 4 := by simp [generalNumber, h]

/-- The slices of the trailing field keep the declared shapes in their order. -/
@[simp] theorem trailSlices_shapes (a : AddrSize) (bs : List Byte) (ops : List Shape) :
    (trailSlices a bs ops).map Prod.fst = ops := by
  induction ops generalizing bs with
  | nil => rfl
  | cons s ss ih => simp [trailSlices, ih]

/-- A row yields as many operands as it declares. -/
@[simp] theorem rowOperands_length (e : Env) (r : Row) (f : Parts) : (rowOperands e r f).length = r.ops.length := by
  rw [rowOperands, List.length_map, ← List.length_map (f := Prod.fst), trailSlices_shapes]

end Sys2Proof.Laws
end

