-- ==== Sys2Proof/Tests/Slice0.lean ====
section
/-! SUPPORT. Tests of the model: well-formedness refuses each kind of ill-formed term; a word of every instruction, written
out from the examples and encoding rules of the spec, decodes to it; single steps answer what the spec's vectors say; and
each statement with hypotheses has a concrete state and operands that meet them. -/

namespace Sys2Proof.Tests

open Sys2Proof.Machine

/-! ## Terms -/

/-- A source over these bytes from index 0, with the reference parameters. -/
def src (b : Bitness) (bs : List Byte) : Source :=
  { buf := Memory.ofBytes bs, start := 0, bitness := b, params := Params.reference }

/-- A request at index 0 with IP 0. -/
def rq (b : Bitness) : Request := { start := 0, ip := 0, bitness := b }

/-- The state with this request waiting. -/
def waiting (b : Bitness) (bs : List Byte) : State := State.reset.submit (Memory.ofBytes bs) (rq b)

/-- A small content of `TEMPLATE_ROM`: three reference rows, one of each space, and two rows that the reference content does
not have. -/
def smallRom : List Row :=
  [Code.row .Daa, Code.row .VEX_Vaddps_xmm_xmm_xmmm128, Code.row .EVEX_Vaddps_zmm_k1z_zmm_zmmm512b32_er,
   { Code.row .Hlt with code := .other "Nop", op := 0x90 },
   { Code.row .Add_AL_imm8 with code := .other "Aam_imm8", op := 0xD4, ops := [.imm 1 8 false], lockable := false }]

/-- The reference parameters with that table. -/
def smallParams : Params := { Params.reference with rom := .other smallRom }

/-- The state with that table and this request waiting. -/
def waitingSmall (b : Bitness) (bs : List Byte) : State :=
  (State.resetWith smallParams).submit (Memory.ofBytes bs) (rq b)

/-- The response to these bytes after one step. -/
def answerTo (b : Bitness) (bs : List Byte) : Option Response := responseOf (step (waiting b bs))

/-- A transaction that has read three bytes. -/
def txn3 : Txn := { Txn.initial 0 with pos := 3 }

/-- A state with that transaction in progress. -/
def inTxn (b : Bitness) : State := (waiting b []).withTxn txn3

theorem inTxn_inTxn (b : Bitness) : InTxn (inTxn b) (rq b) txn3 := ⟨rfl, rfl⟩

def lp : LegacyPrefix := LegacyPrefix.zero
def vp : VexPrefix := VexPrefix.zero
def ep : EvexPrefix := EvexPrefix.zero

/-- A register-only ModRM byte, reg 1, rm 2. -/
def mreg : ModRM := { mod := 3, reg := 1, rm := 2, sib := none, disp := .none }

/-- A memory ModRM byte with one displacement byte, reg 2, rm 0. -/
def mmem : ModRM := { mod := 1, reg := 2, rm := 0, sib := none, disp := .d8 1 }

/-- The numbers of the well-formedness checks that refuse an instruction; 16 is the length check. -/
def refusedBy (b : Bitness) (i : Instr) : List Nat :=
  (List.range 17).filter fun k => !((wfChecks b i.row i.fields.toParts ++ [wfSize i.fields])[k]?).getD true

/-! ## Well-formedness: one ill-formed term per check, refused by that check and by no other -/

theorem test_wf_accepts : WellFormed .b32 (.add_rm32_r32 lp mreg) = true := by decide
theorem test_wf_mode : refusedBy .b64 (.daa lp) = [0] ∧ WellFormed .b64 (.daa lp) = false := by decide
theorem test_wf_rex : refusedBy .b32 (.add_rm8_r8 { lp with rex := some ⟨false, true, false, false⟩ } mreg) = [1] := by decide
theorem test_wf_ext : refusedBy .b32 (.vex_vaddps_xmm_xmm_xmmm128 { vp with vvvv := 8 } mreg) = [2] := by decide
theorem test_wf_mandpfx : refusedBy .b32 (.addss_xmm_xmmm32 { lp with rep := some .F2 } mreg) = [3] := by decide
theorem test_wf_opsize : refusedBy .b32 (.add_rm32_r32 { lp with has66 := true } mreg) = [4] := by decide
theorem test_wf_w : refusedBy .b64 (.evex_vaddpd_xmm_k1z_xmm_xmmm128b64 ep mreg) = [5] := by decide
theorem test_wf_reg : refusedBy .b32 (.add_rm8_imm8 lp mreg 0) = [6] := by decide
theorem test_wf_mod : refusedBy .b32 (.lea_r32_m lp mreg) = [7] := by decide
theorem test_wf_veclen : refusedBy .b32 (.vex_vaddps_xmm_xmm_xmmm128 { vp with l := true } mreg) = [8] := by decide
theorem test_wf_vvvv : refusedBy .b32 (.evex_vmovdqa32_xmm_k1z_xmmm128 { ep with vvvv := 1 } mreg) = [9] := by decide
theorem test_wf_features :
    refusedBy .b32 (.evex_vpcmpgtb_k_k1_xmm_xmmm128 { ep with z := true, aaa := 1 } mreg) = [10]
      ∧ refusedBy .b32 (.evex_vaddps_xmm_k1z_xmm_xmmm128b32 { ep with z := true } mreg) = [10]
      ∧ refusedBy .b32 (.evex_vpunpcklbw_xmm_k1z_xmm_xmmm128 { ep with bcst := true } mmem) = [10] := by decide
theorem test_wf_regk : refusedBy .b64 (.evex_vpcmpgtb_k_k1_xmm_xmmm128 { ep with r := true } mreg) = [11] := by decide
theorem test_wf_sib : refusedBy .b32 (.add_rm32_r32 lp { mreg with mod := 0, rm := 4 }) = [12] := by decide
theorem test_wf_disp : refusedBy .b32 (.add_rm32_r32 lp { mmem with disp := .d32 0 }) = [13] := by decide
theorem test_wf_trail : refusedBy .b32 (.mov_EAX_moffs32 lp (.a16 0)) = [14] := by decide
theorem test_wf_size :
    refusedBy .b64 (.add_rm64_imm32 ⟨true, true, some .FS, some .F3, true, some ⟨true, false, false, false⟩⟩
      { mod := 2, reg := 0, rm := 4, sib := some ⟨0, 0, 0⟩, disp := .d32 0 } 0) = [16] := by decide
theorem test_wf_opcode : refusedBy .b64 (.les_r32_m1632 lp mmem) = [0, 15] := by decide

/-- R203: the small table is admissible; a row twice, a memory operand without `mod` = mem, and a fifth operand are not. -/
theorem test_admissible :
    admissible smallRom = true ∧ admissible (Code.row .Daa :: smallRom) = false
      ∧ admissible [{ Code.row .Lea_r32_m with mod := none }] = false
      ∧ admissible [{ Code.row .Hlt with ops := List.replicate 5 (.imm 1 8 false) }] = false := by decide

/-- R203 (b): two rows that only the relation of `W` and `OSZ` keeps apart are admissible together, and so are two rows of
a byte that never arrives as an opcode; with `W` = 0 instead, or in another map, one input passes both. -/
theorem test_disjoint_by_relation :
    let nop := { Code.row .Hlt with code := .other "Nop", bitness := [.b64] }
    admissible [{ nop with w := some true }, { nop with osz := some .o16 }] = true
      ∧ admissible [{ nop with w := some false }, { nop with osz := some .o16 }] = false
      ∧ admissible [{ nop with op := 0x66 }, { nop with op := 0x66 }] = true
      ∧ admissible [{ nop with op := 0x66, map := .m0F }, { nop with op := 0x66, map := .m0F }] = false := by decide

/-! ## Decoding: one word of every instruction -/

/-- Each byte string decodes in its mode to an instruction of its code, every byte consumed. -/
def allDecode (xs : List (Bitness × List Byte × Code)) : Bool :=
  xs.all fun x => match decode (src x.1 x.2.1) with
    | .ok (.instr i, t) => decide (i.code = x.2.2) && decide (t.pos = x.2.1.length)
    | .ok (.row _ _, _) => false
    | .error _ => false

theorem test_decode_legacy_arith_1 : allDecode [
    (.b64, [0x45, 0x00, 0x51, 0x10], .Add_rm8_r8),
    (.b64, [0x66, 0x45, 0x01, 0x51, 0x10], .Add_rm16_r16),
    (.b64, [0x45, 0x01, 0x51, 0x10], .Add_rm32_r32),
    (.b64, [0xF0, 0x48, 0x01, 0x53, 0x10], .Add_rm64_r64),
    (.b64, [0x45, 0x02, 0x51, 0x10], .Add_r8_rm8),
    (.b64, [0x66, 0x45, 0x03, 0x51, 0x10], .Add_r16_rm16),
    (.b64, [0x45, 0x03, 0x51, 0x10], .Add_r32_rm32),
    (.b64, [0x48, 0x03, 0x53, 0x10], .Add_r64_rm64),
    (.b32, [0x04, 0x00], .Add_AL_imm8),
    (.b32, [0x66, 0x05, 0x34, 0x12], .Add_AX_imm16),
    (.b64, [0x05, 0x78, 0x56, 0x34, 0x12], .Add_EAX_imm32),
    (.b64, [0x48, 0x05, 0x00, 0x00, 0x00, 0x80], .Add_RAX_imm32),
    (.b16, [0x27], .Daa),
    (.b32, [0x66, 0x66, 0x66, 0x66, 0x66, 0x66, 0x66, 0x66, 0x66, 0x66, 0x66, 0x66, 0x66, 0x66, 0x40], .Inc_r16),
    (.b16, [0x66, 0x41], .Inc_r32),
    (.b32, [0x66, 0x49], .Dec_r16),
    (.b16, [0x66, 0x49], .Dec_r32),
    (.b64, [0x41, 0x80, 0x41, 0x10, 0x7F], .Add_rm8_imm8),
    (.b64, [0x41, 0x80, 0x79, 0x10, 0x7F], .Cmp_rm8_imm8),
    (.b64, [0x66, 0x41, 0x81, 0x41, 0x10, 0x78, 0x56], .Add_rm16_imm16),
    (.b32, [0x2E, 0x2E, 0x2E, 0x2E, 0x81, 0x84, 0x88, 0x00, 0x00, 0x00, 0x00, 0x44, 0x33, 0x22, 0x11], .Add_rm32_imm32),
    (.b64, [0xF0, 0x48, 0x81, 0x43, 0x10, 0x78, 0x56, 0x34, 0x12], .Add_rm64_imm32),
    (.b64, [0x66, 0x41, 0x81, 0x79, 0x10, 0x78, 0x56], .Cmp_rm16_imm16),
    (.b64, [0x41, 0x81, 0x79, 0x10, 0x78, 0x56, 0x34, 0x12], .Cmp_rm32_imm32)] = true := by
  decide

theorem test_decode_legacy_arith_2 : allDecode [
    (.b64, [0x48, 0x81, 0x7B, 0x10, 0x78, 0x56, 0x34, 0x12], .Cmp_rm64_imm32),
    (.b64, [0x66, 0x41, 0x83, 0x41, 0x10, 0xF0], .Add_rm16_imm8),
    (.b64, [0x41, 0x83, 0x41, 0x10, 0xF0], .Add_rm32_imm8),
    (.b64, [0xF0, 0x48, 0x83, 0x43, 0x10, 0xF0], .Add_rm64_imm8),
    (.b64, [0x66, 0x41, 0x83, 0x79, 0x10, 0xF0], .Cmp_rm16_imm8),
    (.b64, [0x41, 0x83, 0x79, 0x10, 0xF0], .Cmp_rm32_imm8),
    (.b64, [0x48, 0x83, 0x7B, 0x10, 0xF0], .Cmp_rm64_imm8),
    (.b64, [0x41, 0xFE, 0x41, 0x10], .Inc_rm8),
    (.b64, [0x41, 0xFE, 0x49, 0x10], .Dec_rm8),
    (.b64, [0x66, 0x41, 0xFF, 0x41, 0x10], .Inc_rm16),
    (.b64, [0x41, 0xFF, 0x41, 0x10], .Inc_rm32),
    (.b64, [0xF0, 0x48, 0xFF, 0x43, 0x10], .Inc_rm64),
    (.b64, [0x66, 0x41, 0xFF, 0x49, 0x10], .Dec_rm16),
    (.b64, [0x41, 0xFF, 0x49, 0x10], .Dec_rm32),
    (.b64, [0xF0, 0x48, 0xFF, 0x4B, 0x10], .Dec_rm64)] = true := by
  decide

theorem test_decode_legacy_mov : allDecode [
    (.b64, [0x45, 0x88, 0x51, 0x10], .Mov_rm8_r8),
    (.b64, [0x66, 0x45, 0x89, 0x51, 0x10], .Mov_rm16_r16),
    (.b64, [0x45, 0x89, 0x51, 0x10], .Mov_rm32_r32),
    (.b64, [0x40, 0x48, 0x89, 0xC8], .Mov_rm64_r64),
    (.b64, [0x45, 0x8A, 0x51, 0x10], .Mov_r8_rm8),
    (.b64, [0x66, 0x45, 0x8B, 0x51, 0x10], .Mov_r16_rm16),
    (.b64, [0x41, 0x8B, 0x05, 0x10, 0x00, 0x00, 0x00], .Mov_r32_rm32),
    (.b64, [0x48, 0x8B, 0x53, 0x10], .Mov_r64_rm64),
    (.b64, [0x66, 0x45, 0x8D, 0x51, 0x10], .Lea_r16_m),
    (.b64, [0x45, 0x8D, 0x51, 0x10], .Lea_r32_m),
    (.b64, [0x48, 0x8D, 0x05, 0x00, 0x00, 0x00, 0x00], .Lea_r64_m),
    (.b64, [0xA0, 0x88, 0x77, 0x66, 0x55, 0x44, 0x33, 0x22, 0x11], .Mov_AL_moffs8),
    (.b64, [0x66, 0xA1, 0x88, 0x77, 0x66, 0x55, 0x44, 0x33, 0x22, 0x11], .Mov_AX_moffs16),
    (.b64, [0xA1, 0x88, 0x77, 0x66, 0x55, 0x44, 0x33, 0x22, 0x11], .Mov_EAX_moffs32),
    (.b64, [0x48, 0xA1, 0x88, 0x77, 0x66, 0x55, 0x44, 0x33, 0x22, 0x11], .Mov_RAX_moffs64),
    (.b64, [0xA2, 0x88, 0x77, 0x66, 0x55, 0x44, 0x33, 0x22, 0x11], .Mov_moffs8_AL),
    (.b64, [0x66, 0xA3, 0x88, 0x77, 0x66, 0x55, 0x44, 0x33, 0x22, 0x11], .Mov_moffs16_AX),
    (.b64, [0xA3, 0x88, 0x77, 0x66, 0x55, 0x44, 0x33, 0x22, 0x11], .Mov_moffs32_EAX),
    (.b64, [0x48, 0xA3, 0x88, 0x77, 0x66, 0x55, 0x44, 0x33, 0x22, 0x11], .Mov_moffs64_RAX),
    (.b64, [0x40, 0xB4, 0x12], .Mov_r8_imm8),
    (.b64, [0x66, 0x41, 0xB9, 0x78, 0x56], .Mov_r16_imm16),
    (.b64, [0x41, 0xB8, 0x01, 0x00, 0x00, 0x00], .Mov_r32_imm32),
    (.b64, [0x48, 0xB8, 0x88, 0x77, 0x66, 0x55, 0x44, 0x33, 0x22, 0x11], .Mov_r64_imm64)] = true := by
  decide

theorem test_decode_legacy_control : allDecode [
    (.b16, [0x62, 0x06, 0x34, 0x12], .Bound_r16_m1616),
    (.b16, [0x66, 0x62, 0x57, 0x10], .Bound_r32_m3232),
    (.b32, [0x66, 0x74, 0x05], .Je_rel8_16),
    (.b32, [0x74, 0x05], .Je_rel8_32),
    (.b64, [0x74, 0x05], .Je_rel8_64),
    (.b32, [0x66, 0xC4, 0x53, 0x10], .Les_r16_m1616),
    (.b16, [0x66, 0xC4, 0x57, 0x10], .Les_r32_m1632),
    (.b32, [0x66, 0xC5, 0x53, 0x10], .Lds_r16_m1616),
    (.b16, [0x66, 0xC5, 0x57, 0x10], .Lds_r32_m1632),
    (.b64, [0xCC], .Int3),
    (.b32, [0x66, 0xE8, 0x00, 0x00], .Call_rel16),
    (.b32, [0xE8, 0x00, 0x00, 0x00, 0x00], .Call_rel32_32),
    (.b64, [0xE8, 0x00, 0x00, 0x00, 0x00], .Call_rel32_64),
    (.b32, [0x66, 0xE9, 0x00, 0x01], .Jmp_rel16),
    (.b32, [0xE9, 0x00, 0x00, 0x00, 0x80], .Jmp_rel32_32),
    (.b64, [0x66, 0xE9, 0x00, 0x01, 0x00, 0x00], .Jmp_rel32_64),
    (.b16, [0xEB, 0x00], .Jmp_rel8_16),
    (.b32, [0xEB, 0x00], .Jmp_rel8_32),
    (.b64, [0xEB, 0xFE], .Jmp_rel8_64),
    (.b32, [0xF3, 0xF4], .Hlt),
    (.b32, [0x0F, 0x05], .Syscall),
    (.b16, [0x0F, 0x84, 0xFA, 0xFF], .Je_rel16),
    (.b32, [0x0F, 0x84, 0x00, 0x00, 0x00, 0x00], .Je_rel32_32),
    (.b64, [0x0F, 0x84, 0x00, 0x01, 0x00, 0x00], .Je_rel32_64)] = true := by
  decide

theorem test_decode_legacy_system : allDecode [
    (.b64, [0x41, 0x0F, 0xAE, 0x41, 0x10], .Fxsave_m512byte),
    (.b64, [0x48, 0x0F, 0xAE, 0x43, 0x10], .Fxsave64_m512byte),
    (.b64, [0x41, 0x0F, 0xAE, 0x49, 0x10], .Fxrstor_m512byte),
    (.b64, [0x48, 0x0F, 0xAE, 0x4B, 0x10], .Fxrstor64_m512byte),
    (.b64, [0x41, 0x0F, 0xAE, 0x51, 0x10], .Ldmxcsr_m32),
    (.b64, [0x41, 0x0F, 0xAE, 0x59, 0x10], .Stmxcsr_m32),
    (.b64, [0x41, 0x0F, 0xAE, 0x79, 0x10], .Clflush_m8),
    (.b32, [0x0F, 0xAE, 0xE8], .Lfence),
    (.b32, [0x0F, 0xAE, 0xF0], .Mfence),
    (.b32, [0x0F, 0xAE, 0xF8], .Sfence)] = true := by
  decide

theorem test_decode_legacy_simd : allDecode [
    (.b64, [0x45, 0x0F, 0x58, 0x51, 0x10], .Addps_xmm_xmmm128),
    (.b64, [0x66, 0x45, 0x0F, 0x58, 0x51, 0x10], .Addpd_xmm_xmmm128),
    (.b64, [0xF3, 0x45, 0x0F, 0x58, 0x51, 0x10], .Addss_xmm_xmmm32),
    (.b64, [0xF2, 0x45, 0x0F, 0x58, 0x51, 0x10], .Addsd_xmm_xmmm64),
    (.b64, [0x41, 0x0F, 0x60, 0x51, 0x10], .Punpcklbw_mm_mmm32),
    (.b64, [0x66, 0x45, 0x0F, 0x60, 0x51, 0x10], .Punpcklbw_xmm_xmmm128),
    (.b64, [0x41, 0x0F, 0x61, 0x51, 0x10], .Punpcklwd_mm_mmm32),
    (.b64, [0x66, 0x45, 0x0F, 0x61, 0x51, 0x10], .Punpcklwd_xmm_xmmm128),
    (.b64, [0x41, 0x0F, 0x62, 0x51, 0x10], .Punpckldq_mm_mmm32),
    (.b64, [0x66, 0x45, 0x0F, 0x62, 0x51, 0x10], .Punpckldq_xmm_xmmm128),
    (.b64, [0x41, 0x0F, 0x63, 0x51, 0x10], .Packsswb_mm_mmm64),
    (.b64, [0x66, 0x45, 0x0F, 0x63, 0x51, 0x10], .Packsswb_xmm_xmmm128),
    (.b64, [0x41, 0x0F, 0x64, 0x51, 0x10], .Pcmpgtb_mm_mmm64),
    (.b64, [0x66, 0x45, 0x0F, 0x64, 0x51, 0x10], .Pcmpgtb_xmm_xmmm128),
    (.b64, [0x41, 0x0F, 0x65, 0x51, 0x10], .Pcmpgtw_mm_mmm64),
    (.b64, [0x66, 0x45, 0x0F, 0x65, 0x51, 0x10], .Pcmpgtw_xmm_xmmm128),
    (.b64, [0x41, 0x0F, 0x66, 0x51, 0x10], .Pcmpgtd_mm_mmm64),
    (.b64, [0x66, 0x45, 0x0F, 0x66, 0x51, 0x10], .Pcmpgtd_xmm_xmmm128),
    (.b64, [0x41, 0x0F, 0x67, 0x51, 0x10], .Packuswb_mm_mmm64),
    (.b64, [0x66, 0x45, 0x0F, 0x67, 0x51, 0x10], .Packuswb_xmm_xmmm128),
    (.b64, [0x41, 0x0F, 0x6E, 0x51, 0x10], .Movd_mm_rm32),
    (.b64, [0x48, 0x0F, 0x6E, 0x53, 0x10], .Movq_mm_rm64),
    (.b64, [0x66, 0x45, 0x0F, 0x6E, 0x51, 0x10], .Movd_xmm_rm32),
    (.b64, [0x66, 0x48, 0x0F, 0x6E, 0x53, 0x10], .Movq_xmm_rm64)] = true := by
  decide

theorem test_decode_vex : allDecode [
    (.b64, [0xC4, 0x41, 0x08, 0x58, 0xD1], .VEX_Vaddps_xmm_xmm_xmmm128),
    (.b64, [0xC4, 0x41, 0x0C, 0x58, 0xD1], .VEX_Vaddps_ymm_ymm_ymmm256),
    (.b64, [0xC4, 0x41, 0x09, 0x58, 0xD1], .VEX_Vaddpd_xmm_xmm_xmmm128),
    (.b64, [0xC4, 0x41, 0x0D, 0x58, 0xD1], .VEX_Vaddpd_ymm_ymm_ymmm256),
    (.b64, [0xC4, 0x41, 0x0A, 0x58, 0xD1], .VEX_Vaddss_xmm_xmm_xmmm32),
    (.b64, [0xC4, 0x41, 0x0B, 0x58, 0xD1], .VEX_Vaddsd_xmm_xmm_xmmm64),
    (.b32, [0x2E, 0x67, 0xC5, 0xC9, 0x60, 0x10], .VEX_Vpunpcklbw_xmm_xmm_xmmm128),
    (.b64, [0xC4, 0x41, 0x0D, 0x60, 0xD1], .VEX_Vpunpcklbw_ymm_ymm_ymmm256),
    (.b64, [0xC4, 0x41, 0x09, 0x61, 0xD1], .VEX_Vpunpcklwd_xmm_xmm_xmmm128),
    (.b64, [0xC4, 0x41, 0x0D, 0x61, 0xD1], .VEX_Vpunpcklwd_ymm_ymm_ymmm256),
    (.b64, [0xC4, 0x41, 0x09, 0x62, 0xD1], .VEX_Vpunpckldq_xmm_xmm_xmmm128),
    (.b64, [0xC4, 0x41, 0x0D, 0x62, 0xD1], .VEX_Vpunpckldq_ymm_ymm_ymmm256),
    (.b64, [0xC4, 0x41, 0x09, 0x63, 0xD1], .VEX_Vpacksswb_xmm_xmm_xmmm128),
    (.b64, [0xC4, 0x41, 0x0D, 0x63, 0xD1], .VEX_Vpacksswb_ymm_ymm_ymmm256),
    (.b64, [0xC4, 0x41, 0x09, 0x64, 0xD1], .VEX_Vpcmpgtb_xmm_xmm_xmmm128),
    (.b64, [0xC4, 0x41, 0x0D, 0x64, 0xD1], .VEX_Vpcmpgtb_ymm_ymm_ymmm256),
    (.b64, [0xC4, 0x41, 0x09, 0x65, 0xD1], .VEX_Vpcmpgtw_xmm_xmm_xmmm128),
    (.b64, [0xC4, 0x41, 0x0D, 0x65, 0xD1], .VEX_Vpcmpgtw_ymm_ymm_ymmm256),
    (.b64, [0xC4, 0x41, 0x09, 0x66, 0xD1], .VEX_Vpcmpgtd_xmm_xmm_xmmm128),
    (.b64, [0xC4, 0x41, 0x0D, 0x66, 0xD1], .VEX_Vpcmpgtd_ymm_ymm_ymmm256),
    (.b64, [0xC4, 0x41, 0x09, 0x67, 0xD1], .VEX_Vpackuswb_xmm_xmm_xmmm128),
    (.b64, [0xC4, 0x41, 0x0D, 0x67, 0xD1], .VEX_Vpackuswb_ymm_ymm_ymmm256)] = true := by
  decide

theorem test_decode_evex_arith : allDecode [
    (.b64, [0x62, 0xF1, 0x4C, 0x08, 0x58, 0x53, 0x10], .EVEX_Vaddps_xmm_k1z_xmm_xmmm128b32),
    (.b64, [0x62, 0xF1, 0x4C, 0x28, 0x58, 0x53, 0x10], .EVEX_Vaddps_ymm_k1z_ymm_ymmm256b32),
    (.b64, [0x62, 0xF1, 0x4C, 0x48, 0x58, 0x53, 0x10], .EVEX_Vaddps_zmm_k1z_zmm_zmmm512b32_er),
    (.b64, [0x62, 0xF1, 0xCD, 0x08, 0x58, 0x53, 0x10], .EVEX_Vaddpd_xmm_k1z_xmm_xmmm128b64),
    (.b64, [0x62, 0xF1, 0xCD, 0x28, 0x58, 0x53, 0x10], .EVEX_Vaddpd_ymm_k1z_ymm_ymmm256b64),
    (.b64, [0x62, 0xF1, 0xCD, 0x48, 0x58, 0x53, 0x10], .EVEX_Vaddpd_zmm_k1z_zmm_zmmm512b64_er),
    (.b64, [0x62, 0xF1, 0x4E, 0x08, 0x58, 0x50, 0x01], .EVEX_Vaddss_xmm_k1z_xmm_xmmm32_er),
    (.b64, [0x62, 0xF1, 0xCF, 0x08, 0x58, 0x50, 0x01], .EVEX_Vaddsd_xmm_k1z_xmm_xmmm64_er),
    (.b64, [0x62, 0xF1, 0x4C, 0x08, 0x5F, 0x53, 0x10], .EVEX_Vmaxps_xmm_k1z_xmm_xmmm128b32),
    (.b64, [0x62, 0xF1, 0x4C, 0x28, 0x5F, 0x53, 0x10], .EVEX_Vmaxps_ymm_k1z_ymm_ymmm256b32),
    (.b64, [0x62, 0xF1, 0x4C, 0x48, 0x5F, 0x53, 0x10], .EVEX_Vmaxps_zmm_k1z_zmm_zmmm512b32_sae)] = true := by
  decide

theorem test_decode_evex_pack : allDecode [
    (.b64, [0x62, 0xF1, 0x4D, 0x08, 0x60, 0x53, 0x10], .EVEX_Vpunpcklbw_xmm_k1z_xmm_xmmm128),
    (.b64, [0x62, 0xF1, 0x4D, 0x28, 0x60, 0x53, 0x10], .EVEX_Vpunpcklbw_ymm_k1z_ymm_ymmm256),
    (.b64, [0x62, 0xF1, 0x4D, 0x48, 0x60, 0x53, 0x10], .EVEX_Vpunpcklbw_zmm_k1z_zmm_zmmm512),
    (.b64, [0x62, 0xF1, 0x4D, 0x08, 0x61, 0x53, 0x10], .EVEX_Vpunpcklwd_xmm_k1z_xmm_xmmm128),
    (.b64, [0x62, 0xF1, 0x4D, 0x28, 0x61, 0x53, 0x10], .EVEX_Vpunpcklwd_ymm_k1z_ymm_ymmm256),
    (.b64, [0x62, 0xF1, 0x4D, 0x48, 0x61, 0x53, 0x10], .EVEX_Vpunpcklwd_zmm_k1z_zmm_zmmm512),
    (.b64, [0x62, 0xF1, 0x4D, 0x08, 0x62, 0x53, 0x10], .EVEX_Vpunpckldq_xmm_k1z_xmm_xmmm128b32),
    (.b64, [0x62, 0xF1, 0x4D, 0x28, 0x62, 0x53, 0x10], .EVEX_Vpunpckldq_ymm_k1z_ymm_ymmm256b32),
    (.b64, [0x62, 0xF1, 0x4D, 0x48, 0x62, 0x53, 0x10], .EVEX_Vpunpckldq_zmm_k1z_zmm_zmmm512b32),
    (.b64, [0x62, 0xF1, 0x4D, 0x08, 0x63, 0x53, 0x10], .EVEX_Vpacksswb_xmm_k1z_xmm_xmmm128),
    (.b64, [0x62, 0xF1, 0x4D, 0x28, 0x63, 0x53, 0x10], .EVEX_Vpacksswb_ymm_k1z_ymm_ymmm256),
    (.b64, [0x62, 0xF1, 0x4D, 0x48, 0x63, 0x53, 0x10], .EVEX_Vpacksswb_zmm_k1z_zmm_zmmm512),
    (.b64, [0x62, 0xF1, 0x4D, 0x08, 0x67, 0x53, 0x10], .EVEX_Vpackuswb_xmm_k1z_xmm_xmmm128),
    (.b64, [0x62, 0xF1, 0x4D, 0x28, 0x67, 0x53, 0x10], .EVEX_Vpackuswb_ymm_k1z_ymm_ymmm256),
    (.b64, [0x62, 0xF1, 0x4D, 0x48, 0x67, 0x53, 0x10], .EVEX_Vpackuswb_zmm_k1z_zmm_zmmm512)] = true := by
  decide

theorem test_decode_evex_other : allDecode [
    (.b64, [0x62, 0xF1, 0x4D, 0x0B, 0x64, 0x90, 0x01, 0x00, 0x00, 0x00], .EVEX_Vpcmpgtb_k_k1_xmm_xmmm128),
    (.b64, [0x62, 0xF1, 0x4D, 0x28, 0x64, 0x53, 0x10], .EVEX_Vpcmpgtb_k_k1_ymm_ymmm256),
    (.b64, [0x62, 0xF1, 0x4D, 0x48, 0x64, 0x53, 0x10], .EVEX_Vpcmpgtb_k_k1_zmm_zmmm512),
    (.b64, [0x62, 0xF1, 0x4D, 0x08, 0x65, 0x53, 0x10], .EVEX_Vpcmpgtw_k_k1_xmm_xmmm128),
    (.b64, [0x62, 0xF1, 0x4D, 0x28, 0x65, 0x53, 0x10], .EVEX_Vpcmpgtw_k_k1_ymm_ymmm256),
    (.b64, [0x62, 0xF1, 0x4D, 0x48, 0x65, 0x53, 0x10], .EVEX_Vpcmpgtw_k_k1_zmm_zmmm512),
    (.b64, [0x62, 0xF1, 0x4D, 0x08, 0x66, 0x53, 0x10], .EVEX_Vpcmpgtd_k_k1_xmm_xmmm128b32),
    (.b64, [0x62, 0xF1, 0x4D, 0x28, 0x66, 0x53, 0x10], .EVEX_Vpcmpgtd_k_k1_ymm_ymmm256b32),
    (.b64, [0x62, 0xF1, 0x4D, 0x48, 0x66, 0x53, 0x10], .EVEX_Vpcmpgtd_k_k1_zmm_zmmm512b32),
    (.b64, [0x62, 0xF1, 0x7D, 0x08, 0x6F, 0x53, 0x10], .EVEX_Vmovdqa32_xmm_k1z_xmmm128),
    (.b64, [0x62, 0xF1, 0x7D, 0x28, 0x6F, 0x40, 0x01], .EVEX_Vmovdqa32_ymm_k1z_ymmm256),
    (.b64, [0x62, 0xF1, 0x7D, 0x48, 0x6F, 0x53, 0x10], .EVEX_Vmovdqa32_zmm_k1z_zmmm512),
    (.b64, [0x62, 0xF1, 0xFD, 0x08, 0x6F, 0x53, 0x10], .EVEX_Vmovdqa64_xmm_k1z_xmmm128),
    (.b64, [0x62, 0xF1, 0xFD, 0x28, 0x6F, 0x53, 0x10], .EVEX_Vmovdqa64_ymm_k1z_ymmm256),
    (.b64, [0x62, 0xF1, 0xFD, 0x48, 0x6F, 0x53, 0x10], .EVEX_Vmovdqa64_zmm_k1z_zmmm512)] = true := by
  decide

/-! ## Single steps: the source's fixtures (95_test_vectors.md section 1) and failures -/

def mem (seg : SegReg) (base index : Option Register) (disp n : Nat) (a : AddrSize) : MemDesc :=
  { segment := seg, base := base, index := index, scale := 1, disp := disp, dispSize := n, addrSize := a }

theorem test_step_S1 : answerTo .b16 [0x0F, 0x60, 0x08] = some (.ok
    { code := .ref .Punpcklbw_mm_mmm32, byteLength := 3, opCount := 2, hasRep := false, hasRepne := false, hasLock := false,
      segmentOverride := none, vec := none,
      operands := [.register (.mm 1), .memory (mem .DS (some (.r16 3)) (some (.r16 6)) 0 0 .a16) .Packed32_Int8, .none, .none] }) := by
  decide

theorem test_step_S2 : answerTo .b64 [0x66, 0x44, 0x0F, 0x60, 0xCD] = some (.ok
    { code := .ref .Punpcklbw_xmm_xmmm128, byteLength := 5, opCount := 2, hasRep := false, hasRepne := false, hasLock := false,
      segmentOverride := none, vec := none, operands := [.register (.xmm 9), .register (.xmm 5), .none, .none] }) := by
  decide

theorem test_step_S3 : answerTo .b64 [0x62, 0xF1, 0x4D, 0x0B, 0x64, 0x50, 0x01] = some (.ok
    { code := .ref .EVEX_Vpcmpgtb_k_k1_xmm_xmmm128, byteLength := 7, opCount := 3, hasRep := false, hasRepne := false,
      hasLock := false, segmentOverride := none,
      vec := some { opMask := some 3, zeroingMasking := false, roundingControl := none, suppressAllExceptions := false },
      operands := [.register (.k 2), .register (.xmm 6), .memory (mem .DS (some (.r64 0)) none 16 1 .a64) .Packed128_Int8,
                   .none] }) := by
  decide

theorem test_step_S4 : answerTo .b16 [0x62, 0xF1, 0x4D, 0x9D, 0x62, 0x50, 0x01] = some (.ok
    { code := .ref .EVEX_Vpunpckldq_xmm_k1z_xmm_xmmm128b32, byteLength := 7, opCount := 3, hasRep := false, hasRepne := false,
      hasLock := false, segmentOverride := none,
      vec := some { opMask := some 5, zeroingMasking := true, roundingControl := none, suppressAllExceptions := false },
      operands := [.register (.xmm 2), .register (.xmm 6),
                   .memory (mem .DS (some (.r16 3)) (some (.r16 6)) 4 1 .a16) .Broadcast128_Int32, .none] }) := by
  decide

theorem test_step_S5 : answerTo .b64 [0xC4, 0xC1, 0x49, 0x60, 0xD3] = some (.ok
    { code := .ref .VEX_Vpunpcklbw_xmm_xmm_xmmm128, byteLength := 5, opCount := 3, hasRep := false, hasRepne := false,
      hasLock := false, segmentOverride := none,
      vec := some { opMask := none, zeroingMasking := false, roundingControl := none, suppressAllExceptions := false },
      operands := [.register (.xmm 2), .register (.xmm 6), .register (.xmm 11), .none] }) := by
  decide

/-- R294, R295: rounding by `L'L` = 01 on a register-only form. -/
theorem test_step_rounding : (answerTo .b64 [0x62, 0xF1, 0x74, 0x38, 0x58, 0xC2]).map (fun r => match r with
    | .ok out => out.vec.map fun v => (v.roundingControl, v.suppressAllExceptions)
    | .fail _ => none) = some (some (some .RoundDown, true)) := by decide

/-- R268: the target of a short jump backwards from IP 0. -/
theorem test_step_branch_wraps : (answerTo .b16 [0xEB, 0xFD]).map (fun r => match r with
    | .ok out => out.operands.head?
    | .fail _ => none) = some (some (.nearBranch (-3) 16 1 0xFFFF)) := by decide

/-- R274: LOCK with a memory destination, with a register destination, on a row that is not lockable, truncated. -/
theorem test_step_lock :
    ((answerTo .b32 [0xF0, 0x01, 0x08]).bind Response.code?) = some (.ref .Add_rm32_r32)
      ∧ answerTo .b32 [0xF0, 0x01, 0xC8] = some (.fail .InvalidLockUsage)
      ∧ answerTo .b32 [0xF0, 0x8B, 0x08] = some (.fail .InvalidLockUsage)
      ∧ answerTo .b32 [0xF0, 0x01] = some (.fail .EndOfInput) := by decide

/-- R153, R197, R171, R170, R193: the failure kinds of the earlier stages. -/
theorem test_step_failures :
    answerTo .b64 (List.replicate 15 0x66 ++ [0x90]) = some (.fail .InvalidOpcode)
      ∧ answerTo .b64 [0x27] = some (.fail .InvalidModeForInstruction)
      ∧ answerTo .b32 [0xC4, 0xC1, 0x49, 0x60, 0xD3] = some (.fail .InvalidModeForInstruction)
      ∧ answerTo .b64 [0x66, 0xC5, 0xC9, 0x60, 0xD3] = some (.fail .InvalidOpcode)
      ∧ answerTo .b64 [0x0F, 0x0B] = some (.fail .InvalidOpcode)
      ∧ answerTo .b64 [] = some (.fail .EndOfInput) := by decide

/-- R330: the numbers of the four kinds. -/
theorem test_failure_numbers :
    [FailureKind.EndOfInput, .InvalidOpcode, .InvalidModeForInstruction, .InvalidLockUsage].map failureNumber
      = [0, 1, 2, 3] := by decide

/-- R376: a caller gets two instructions one after the other, and may ask for the next one in another mode. -/
theorem test_caller_run :
    (callerRun [.b64, .b64] (waiting .b64 [0x48, 0x01, 0xC8, 0xC5, 0xC9, 0x60, 0xD3])).map Response.code?
        = [some (.ref .Add_rm64_r64), some (.ref .VEX_Vpunpcklbw_xmm_xmm_xmmm128), none]
      ∧ (callerRun [.b64] (waiting .b32 [0x27, 0x48, 0x01, 0xC8])).map Response.code?
        = [some (.ref .Daa), some (.ref .Add_rm64_r64)] := by decide

/-- R317: `66 E9` in 64-bit mode; the example of the rule, and two displacement bytes under `width16` (log entry 3). -/
theorem test_branch66 :
    (decode { src .b64 [0x66, 0xE9, 0x00, 0x01, 0x00, 0x00] with params := Params.reference }).toOption.map
        (fun x => (x.1, x.2.pos)) = some (.instr (.jmp_rel32_64 { lp with has66 := true } 0x100), 6)
      ∧ (decode { src .b64 [0x66, 0xE9, 0x00, 0x01, 0x00, 0x00] with
            params := { Params.reference with branch66In64 := .width16 } }).toOption.map
        (fun x => (x.1, x.2.pos)) = some (.instr (.jmp_rel16 { lp with has66 := true } 0x100), 4)
      ∧ (decode { src .b64 [0x66, 0x48, 0xE9, 0x00, 0x01, 0x00, 0x00] with
            params := { Params.reference with branch66In64 := .width16 } }).toOption.map
        (fun x => x.2.pos) = some 7 := by decide

/-- R6, R23, R371: a table with other content; its own rows are assembled by their declared shapes (R260). -/
theorem test_other_rom :
    responseOf (step (waitingSmall .b64 [0xD4, 0x0A])) = some (.ok
        { code := .other "Aam_imm8", byteLength := 2, opCount := 1, hasRep := false, hasRepne := false, hasLock := false,
          segmentOverride := none, vec := none, operands := [.immediate 10 8 1, .none, .none, .none] })
      ∧ (responseOf (step (waitingSmall .b32 [0x27]))).bind Response.code? = some (.ref .Daa)
      ∧ responseOf (step (waitingSmall .b32 [0xF4])) = some (.fail .InvalidOpcode) := by decide

/-- A word of the opcode table as the first instruction after reset (log entries 6 and 7). -/
theorem test_fetch_word :
    (decodeTableWord 8 0x27).map Instr.code = some .Daa
      ∧ ((responseOf (step (State.reset.withFetchWord 8 0x27))).bind Response.code?) = some (.ref .Daa) := by decide

/-! ## Witnesses: the hypotheses of each statement hold together somewhere -/

theorem witness_PeekAndReadWithinLimits :
    peek (src .b64 (List.replicate 20 0x66)) (Txn.initial 0) 14 = .ok 0x66
      ∧ peek (src .b64 (List.replicate 20 0x66)) (Txn.initial 0) 15 = .error .InvalidOpcode
      ∧ peek (src .b64 [1, 2, 3]) (Txn.initial 0) 2 = .ok 3
      ∧ peek (src .b64 [1, 2, 3]) (Txn.initial 0) 3 = .error .EndOfInput
      ∧ peek (src .b64 [1]) (Txn.initial 0) 0 = .ok 1 ∧ peek (src .b64 []) (Txn.initial 0) 0 = .error .EndOfInput := by decide

theorem witness_ReadLeIsLittleEndian :
    readBytes (src .b64 [0x34, 0x12]) 2 (Txn.initial 0) = .ok ([0x34, 0x12], { Txn.initial 0 with pos := 2 })
      ∧ (∀ j, j < 2 → (peek (src .b64 [0x34, 0x12]) (Txn.initial 0) j).toOption.isSome = true)
      ∧ (∀ j, j < 1 → peek (src .b64 [0x34]) (Txn.initial 0) j = .ok 0x34)
      ∧ peek (src .b64 [0x34]) (Txn.initial 0) 1 = .error .EndOfInput := by decide

theorem witness_ScanKeepsLastOfEachClass :
    let legacy : List Byte := [0x66, 0x67, 0x26, 0x2E, 0x36, 0x3E, 0x64, 0x65, 0xF0, 0xF2, 0xF3]
    (HoldsBytes (src .b32 [0x2E, 0x36, 0x65, 0x8B]).buf 0 ([0x2E, 0x36, 0x65] ++ [0x8B])
      ∧ (∀ u ∈ [(0x2E : Byte), 0x36, 0x65], u ∈ legacy) ∧ (0x8B : Byte) ∉ legacy)
      ∧ (HoldsBytes (src .b64 [0x48, 0x2E, 0x4F, 0xF3, 0x64, 0x41, 0x0F]).buf 0
          ([0x48, 0x2E, 0x4F, 0xF3, 0x64, 0x41] ++ [0x0F])
        ∧ (∀ u ∈ [(0x48 : Byte), 0x2E, 0x4F, 0xF3, 0x64, 0x41], u ∈ legacy ∨ u.toNat / 16 = 4)
        ∧ (0x0F : Byte) ∉ legacy ∧ (0x0F : Byte).toNat / 16 ≠ 4)
      ∧ HoldsBytes (src .b32 (List.replicate 14 0x66 ++ [0x48])).buf 0 (List.replicate 14 0x66 ++ [0x48])
      ∧ (0x48 : Byte) ∉ legacy := by
  unfold HoldsBytes
  decide

/-- R94, R161, R163: a mixed run of legacy prefixes and REX bytes in 64-bit mode. -/
theorem test_scan_mixed_run :
    (scanPrefixes (src .b64 [0x48, 0x2E, 0x4F, 0xF3, 0x64, 0x41, 0x0F]) 16 (Txn.initial 0)).toOption.map
      (fun t => (t.ps.seg, t.ps.rep, t.ps.prefixCount, t.ps.rexPresent, t.ps.b)) = some (some .FS, some .F3, 6, true, true) := by
  decide

theorem witness_RexCountsOnlyAsLastScannedByte :
    let legacy : List Byte := [0x66, 0x67, 0x26, 0x2E, 0x36, 0x3E, 0x64, 0x65, 0xF0, 0xF2, 0xF3]
    ((0x4F : Byte) &&& 0xF0 = 0x40 ∧ scanByte .b32 0x4F PrefixState.initial = none)
      ∧ HoldsBytes (src .b64 [0x66, 0x48, 0x0F]).buf 0 ([0x66] ++ [0x48, 0x0F])
      ∧ (∀ x ∈ [(0x66 : Byte)] ++ [0x48], x ∈ legacy ∨ x.toNat / 16 = 4)
      ∧ ((0x0F : Byte) ∉ legacy ∧ (0x0F : Byte).toNat / 16 ≠ 4)
      ∧ HoldsBytes (src .b64 (List.replicate 13 0x48 ++ [0x66, 0x0F])).buf 0 (List.replicate 13 0x48 ++ [0x66, 0x0F])
      ∧ (0x48 : Byte).toNat / 16 = 4 := by
  unfold HoldsBytes
  decide

theorem witness_EscapeTestByModeAndNextByte :
    peek (src .b64 [0x01]) (Txn.initial 0) 0 = .ok 0x01
      ∧ peek (src .b64 [0xC4]) (Txn.initial 0) 0 = .ok 0xC4
      ∧ peek (src .b16 [0x62, 0xF1]) (Txn.initial 0) 1 = .ok 0xF1
      ∧ escapeTest (src .b16 [0x62, 0xF1]) (Txn.initial 0) = .ok (some .evex)
      ∧ escapeTest (src .b32 [0x62, 0x08]) (Txn.initial 0) = .ok none
      ∧ peek (src .b16 [0xC5]) (Txn.initial 0) 1 = .error .EndOfInput
      ∧ scanPrefixes (src .b32 [0x62, 0x08]) 16 (Txn.initial 0) = .ok (Txn.initial 0) := by decide

theorem witness_VexAndEvexPayloadFields :
    ((Escape.evex, 4) ∈ [(Escape.vex2, 2), (.vex3, 3), (.evex, 4)]
      ∧ (∀ j, j < 3 → (peek (src .b64 [0x62, 0xF4, 0x4D]) (Txn.initial 0) j).toOption.isSome = true)
      ∧ peek (src .b64 [0x62, 0xF4, 0x4D]) (Txn.initial 0) 3 = .error .EndOfInput)
      ∧ (6 = 15 - (0xC9 : Byte).toNat / 8 % 16 ∧ HoldsBytes (src .b64 [0xC5, 0xC9]).buf 0 [0xC5, 0xC9])
      ∧ ((0xC0 : Byte).toNat % 32 = 0 ∧ 3 < (0xC4 : Byte).toNat % 32 ∧ ((0xC1 : Byte).toNat % 32, OpMap.m0F) ∈ [(1, OpMap.m0F)]
        ∧ 6 = 15 - (0x49 : Byte).toNat / 8 % 16 ∧ HoldsBytes (src .b64 [0xC4, 0xC1, 0x49]).buf 0 [0xC4, 0xC1, 0x49])
      ∧ ((0xF4 : Byte).toNat / 4 % 4 ≠ 0 ∧ (0xF0 : Byte).toNat % 4 = 0 ∧ (0x49 : Byte).getLsbD 2 = false
        ∧ ((0xF1 : Byte).toNat % 16, OpMap.m0F) ∈ [(1, OpMap.m0F)] ∧ (0x4D : Byte).getLsbD 2 = true
        ∧ 6 = 15 - (0x4D : Byte).toNat / 8 % 16
        ∧ HoldsBytes (src .b64 [0x62, 0xF1, 0x4D, 0x0B]).buf 0 [0x62, 0xF1, 0x4D, 0x0B]) := by
  unfold HoldsBytes
  decide

theorem witness_PrefixesAndBitsThatAnEscapeForbids :
    (Params.reference.legacyBeforeEscape = .fail ∧ Params.reference.extBitsNon64 = .fail)
      ∧ legacyBeforeEscape (src .b64 []) { PrefixState.initial with has66 := true } PrefixState.initial = .error .InvalidOpcode
      ∧ legacyBeforeEscape (src .b64 []) PrefixState.initial PrefixState.initial = .ok PrefixState.initial
      ∧ 8 ≤ (8 : BitVec 4).toNat
      ∧ extensionBits (src .b32 []) { PrefixState.initial with vvvv := 8 } = .error .InvalidModeForInstruction
      ∧ extensionBits { src .b32 [] with params := { Params.reference with extBitsNon64 := .ignore } }
          { PrefixState.initial with vvvv := 15 } = .ok { PrefixState.initial with vvvv := 7 }
      ∧ extensionBits (src .b32 []) { PrefixState.initial with vvvv := 7 } = .ok { PrefixState.initial with vvvv := 7 } := by
  decide

/-- Each outcome of the escape stage and of the prefix scanner (R169, R170, R171, R339). -/
theorem witness_EscapeStageInOrder :
    readEscape (src .b64 [0xC4]) .vex3 (Txn.initial 0) = .error .EndOfInput
      ∧ readEscape (src .b64 [0xC4, 0xE0, 0x00]) .vex3 (Txn.initial 0) = .error .InvalidOpcode
      ∧ escapeStage { src .b32 [0xC4, 0xC1, 0x49] with params := { Params.reference with extBitsNon64 := .ignore } } .vex3
          { Txn.initial 0 with ps := { PrefixState.initial with has66 := true } } = .error .InvalidOpcode
      ∧ escapeStage (src .b32 [0xC4, 0xC1, 0x49]) .vex3 (Txn.initial 0) = .error .InvalidModeForInstruction
      ∧ (escapeStage (src .b64 [0xC4, 0xC1, 0x49]) .vex3 (Txn.initial 0)).toOption.map (fun t => (t.pos, t.ps.mp))
        = some (3, .p66)
      ∧ scanPrefixes (src .b64 []) 16 (Txn.initial 0) = .error .EndOfInput
      ∧ escapeTest (src .b32 [0x62]) (Txn.initial 0) = .error .EndOfInput
      ∧ escapeTest (src .b64 [0x62]) (Txn.initial 0) = .ok (some .evex)
      ∧ escapeTest (src .b64 [0x90]) (Txn.initial 0) = .ok none := by decide

theorem witness_RegisterNumbersByClass :
    (Prefix.evex ep).space = .evex ∧ (Prefix.vex vp).space ≠ .evex ∧ RegClass.xmm ∈ [RegClass.xmm, .ymm, .zmm]
      ∧ rmNumber .xmm (.evex { ep with x := true }) 3 = 19 ∧ rmNumber .xmm (.vex { vp with x := true }) 3 = 3 := by decide

theorem witness_Addressing16Table :
    (Prefix.legacy lp).addrSize .b16 = .a16 ∧ (Prefix.legacy { lp with has67 := true }).addrSize .b32 = .a16
      ∧ (resolveMem .b16 (.legacy lp) 1 { mreg with mod := 0, rm := 6, disp := .d16 0 }).base = none := by decide

theorem witness_Addressing32And64 :
    (Prefix.legacy lp).addrSize .b32 ≠ .a16 ∧ mmem.sib = none
      ∧ (resolveMem .b64 (.legacy lp) 1 { mreg with mod := 0, rm := 5, disp := .d32 0 }).base = some .RIP
      ∧ (resolveMem .b32 (.legacy lp) 1 { mreg with mod := 0, rm := 4, sib := some ⟨3, 4, 5⟩, disp := .d32 0 }).base = none := by
  decide

/-- What the decoder reads after a ModRM byte: its position and the displacement bytes. -/
def afterModRM (a : AddrSize) (v : Byte) (bs : List Byte) : Option (Nat × Option Sib × Disp) :=
  match addressStage (src .b32 bs) a { Txn.initial 0 with modrm := some (splitModRM v) } with
  | .ok t => t.modrm.map fun m => (t.pos, m.sib, m.disp)
  | .error _ => none

/-- R225: every case of 16-bit addressing, on buffers that hold just the bytes it reads. -/
theorem witness_Addressing16Reads :
    HoldsBytes (src .b32 [0x34, 0x12]).buf 0 [0x34, 0x12]
      ∧ afterModRM .a16 0x06 [0x34, 0x12] = some (2, none, .d16 0x1234)
      ∧ afterModRM .a16 0x80 [0x34, 0x12] = some (2, none, .d16 0x1234)
      ∧ afterModRM .a16 0x44 [0x34] = some (1, none, .d8 0x34)
      ∧ afterModRM .a16 0x04 [] = some (0, none, .none) ∧ afterModRM .a16 0xC6 [] = some (0, none, .none) := by
  unfold HoldsBytes
  decide

/-- R229, R233: the cases of 32- and 64-bit addressing without a SIB byte. -/
theorem witness_Addressing32And64Reads :
    HoldsBytes (src .b32 [0x88, 0x34]).buf 0 (0x88 :: [0x34])
      ∧ afterModRM .a32 0x05 [0x78, 0x56, 0x34, 0x12] = some (4, none, .d32 0x12345678)
      ∧ afterModRM .a64 0x80 [0x78, 0x56, 0x34, 0x12] = some (4, none, .d32 0x12345678)
      ∧ afterModRM .a64 0x45 [0x34] = some (1, none, .d8 0x34)
      ∧ afterModRM .a32 0x00 [] = some (0, none, .none) ∧ afterModRM .a32 0xC4 [] = some (0, none, .none) := by
  unfold HoldsBytes
  decide

/-- R229, R233: the cases with a SIB byte; `88h` is ss 2, idx 1, bs 0, and `8Dh` has bs 5. -/
theorem witness_AddressingSibReads :
    afterModRM .a32 0x04 [0x88] = some (1, some ⟨2, 1, 0⟩, .none)
      ∧ afterModRM .a32 0x04 [0x8D, 0x78, 0x56, 0x34, 0x12] = some (5, some ⟨2, 1, 5⟩, .d32 0x12345678)
      ∧ afterModRM .a64 0x44 [0x88, 0x34] = some (2, some ⟨2, 1, 0⟩, .d8 0x34)
      ∧ afterModRM .a64 0x84 [0x8D, 0x78, 0x56, 0x34, 0x12] = some (5, some ⟨2, 1, 5⟩, .d32 0x12345678) := by
  decide

/-- R269: a direct address of 2, 4 and 8 bytes, on buffers that hold just these. -/
theorem witness_DirectAddressBytes :
    HoldsBytes (src .b32 [0x34, 0x12]).buf 0 [0x34, 0x12]
      ∧ (AddrSize.a16, [(0x34 : Byte), 0x12].length) ∈ [(AddrSize.a16, 2), (.a32, 4), (.a64, 8)]
      ∧ ([(AddrSize.a16, 2), (.a32, 4), (.a64, 8)].all fun x =>
          match trailStage (src .b64 (List.replicate x.2 0x12)) x.1 (Code.row .Mov_AL_moffs8) (Txn.initial 0) with
          | .ok t => decide (t.pos = x.2) && decide (t.trail.length = x.2)
          | .error _ => false) = true
      ∧ Moffs.ofBytes [0x34, 0x12] = .a16 0x1234 ∧ Moffs.ofBytes [0x78, 0x56, 0x34, 0x12] = .a32 0x12345678 := by
  unfold HoldsBytes
  decide

/-- The size of a direct address on an EVEX row with broadcast and `b` = 1 (log entry 16). -/
theorem test_evex_direct_address :
    let r := { Code.row .EVEX_Vaddps_xmm_k1z_xmm_xmmm128b32 with ops := [.moffs], hasModrm := false }
    rowAdmissible r = true ∧ featuresOk { PrefixState.initial with space := .evex, bcst := true } ModRM.zero r = true
      ∧ (responseOf (assembleRow r ⟨.evex { ep with bcst := true }, 0, none, [0x34, 0x12]⟩ (inTxn .b16))).map (fun x => match x with
        | .ok out => out.operands.head?
        | .fail _ => none) = some (some (.memory (moffsDesc (.evex ep) (.a16 0x1234)) .Packed128_Float32)) := by decide

theorem witness_DisplacementScaledAndWrapped : AddrSize.a32 ≠ .a16 ∧ dispValue .a16 1 (.d8 0xFE) = 0xFFFE := by decide

theorem witness_OpcodeReadByMap :
    (readOpcode (src .b64 [0x90]) (Txn.initial 0)).toOption.isSome = true
      ∧ HoldsBytes (src .b64 [0x90]).buf 0 [0x90] ∧ HoldsBytes (src .b64 [0x0F, 0x60]).buf 0 [0x0F, 0x60]
      ∧ HoldsBytes (src .b64 [0x0F, 0x38, 0x0F]).buf 0 [0x0F, 0x38, 0x0F]
      ∧ HoldsBytes (src .b64 [0x0F, 0x3A, 0x0F]).buf 0 [0x0F, 0x3A, 0x0F]
      ∧ (Txn.initial 0).ps.space = .legacy ∧ (vex2Payload 0xC9 PrefixState.initial).space ≠ .legacy := by
  unfold HoldsBytes
  decide

theorem witness_EmptyCandidateSetFails :
    ∃ t1, readOpcode (src .b64 [0x0F, 0x0B]) (Txn.initial 0) = .ok t1 ∧ t1.opcode = some 0x0B
      ∧ candidates (src .b64 []).params.table t1.ps 0x0B = [] :=
  ⟨_, rfl, rfl, by decide⟩

theorem witness_SelectedRowIsUnique :
    let q : Source := { src .b64 [0xC5, 0xF0, 0x58, 0xCA] with params := smallParams }
    admissible smallRom = true ∧
      ∃ t t1 t2, prefixStage q (Txn.initial 0) = .ok t ∧ readOpcode q t = .ok t1 ∧ t1.opcode = some 0x58
        ∧ readModRM q (candidates smallRom t1.ps 0x58) t1 = .ok t2
        ∧ selectRow .b64 t2.ps .o32 (t2.modrm.getD ModRM.zero) (candidates smallRom t1.ps 0x58)
          = .ok (Code.row .VEX_Vaddps_xmm_xmm_xmmm128) := by
  refine ⟨by decide, _, _, _, rfl, rfl, rfl, rfl, ?_⟩
  decide

theorem witness_TemplateRomIsAdmissible :
    Params.reference.rom = .reference ∧ PrefixState.initial.space = .legacy
      ∧ PrefixState.initial.map = (Code.row .Jmp_rel32_64).map := by decide

theorem witness_DispatchFailureKinds :
    selected PrefixState.initial .o32 mreg (candidates smallRom PrefixState.initial 0xD6) = []
      ∧ selected PrefixState.initial .o32 mreg (candidates smallRom PrefixState.initial 0x27) ≠ []
      ∧ inMode .b64 (selected PrefixState.initial .o32 mreg (candidates smallRom PrefixState.initial 0x27)) = []
      ∧ inMode .b32 (selected PrefixState.initial .o32 mreg (candidates smallRom PrefixState.initial 0x27)) ≠ [] := by decide

/-- A failure of each stage, and the same failure of the decode (R335, R339). -/
theorem witness_DecodeFailsAsItsFirstFailingStage :
    readOpcode (src .b64 []) (Txn.initial 0) = .error .EndOfInput
      ∧ readModRM (src .b64 [0x01]) [Code.row .Add_rm32_r32] { Txn.initial 0 with pos := 1 } = .error .EndOfInput
      ∧ prefixStage (src .b32 [0xC4, 0xC1, 0x49]) (Txn.initial 0) = .error .InvalidModeForInstruction
      ∧ decode (src .b32 [0xC4, 0xC1, 0x49]) = .error .InvalidModeForInstruction
      ∧ (dispatchStage (src .b64 [0x27]) (Txn.initial 0)).toOption.isNone = true
      ∧ decode (src .b64 [0x27]) = .error .InvalidModeForInstruction
      ∧ readSib (src .b32 [0x01, 0x04]) .a32 { mreg with mod := 0, rm := 4 } { Txn.initial 0 with pos := 2 }
        = .error .EndOfInput
      ∧ readDisp (src .b32 [0x01, 0x41]) .a32 { mreg with mod := 1 } { Txn.initial 0 with pos := 2 } = .error .EndOfInput
      ∧ decode (src .b32 [0x01, 0x41]) = .error .EndOfInput
      ∧ readBytes (src .b32 [0x04]) (trailLength .a32 (Code.row .Add_AL_imm8).ops) { Txn.initial 0 with pos := 1 }
        = .error .EndOfInput
      ∧ decode (src .b32 [0x04]) = .error .EndOfInput ∧ (decode (src .b32 [0x04, 0x7F])).toOption.isSome = true := by decide

/-- Each feature check alone refuses its case, and the same bits pass where the row permits them (R199). -/
theorem witness_FeatureChecksOfTheSelectedRow :
    let ps := { PrefixState.initial with space := .evex }
    featuresOk { ps with vvvv := 1 } mreg (Code.row .EVEX_Vmovdqa32_xmm_k1z_xmmm128) = false
      ∧ featuresOk { ps with vp := true } mreg (Code.row .EVEX_Vmovdqa32_xmm_k1z_xmmm128) = false
      ∧ featuresOk { ps with aaa := 1 } mreg { Code.row .EVEX_Vmovdqa32_xmm_k1z_xmmm128 with k := false } = false
      ∧ featuresOk { ps with aaa := 1, z := true } mreg (Code.row .EVEX_Vpcmpgtb_k_k1_xmm_xmmm128) = false
      ∧ featuresOk { ps with z := true } mreg (Code.row .EVEX_Vmovdqa32_xmm_k1z_xmmm128) = false
      ∧ featuresOk { ps with bcst := true } mmem (Code.row .EVEX_Vmovdqa32_xmm_k1z_xmmm128) = false
      ∧ featuresOk { ps with bcst := true } mreg (Code.row .EVEX_Vmovdqa32_xmm_k1z_xmmm128) = false
      ∧ featuresOk { ps with r := true } mreg (Code.row .EVEX_Vpcmpgtb_k_k1_xmm_xmmm128) = false
      ∧ featuresOk { ps with rp := true } mreg (Code.row .EVEX_Vpcmpgtb_k_k1_xmm_xmmm128) = false
      ∧ featuresOk { ps with aaa := 1, z := true, bcst := true, vvvv := 9, vp := true, r := true } mmem
          (Code.row .EVEX_Vaddps_zmm_k1z_zmm_zmmm512b32_er) = true := by decide

/-- Dispatch on a selected row that the feature checks refuse: an EVEX move with `vvvv` in use. -/
theorem witness_FeatureChecksAtDispatch :
    (prefixStage (src .b64 [0x62, 0xF1, 0x75, 0x08, 0x6F, 0xC2]) (Txn.initial 0)).toOption.map (fun t =>
        ((readOpcode (src .b64 [0x62, 0xF1, 0x75, 0x08, 0x6F, 0xC2]) t).toOption.map (·.opcode),
         dispatchStage (src .b64 [0x62, 0xF1, 0x75, 0x08, 0x6F, 0xC2]) t |>.toOption |>.isSome))
        = some (some (some 0x6F), false)
      ∧ answerTo .b64 [0x62, 0xF1, 0x75, 0x08, 0x6F, 0xC2] = some (.fail .InvalidOpcode)
      ∧ (answerTo .b64 [0x62, 0xF1, 0x7D, 0x08, 0x6F, 0xC2]).bind Response.code?
        = some (.ref .EVEX_Vmovdqa32_xmm_k1z_xmmm128) := by decide

theorem witness_DecodeOfEncodeLegacy :
    admissible smallParams.table = true ∧ (Instr.daa lp).row.space = .legacy
      ∧ WellFormedIn smallParams .b32 (.daa lp) = true ∧ WellFormed .b64 (.add_rm32_r32 lp mreg) = true
      ∧ HoldsBytes (src .b32 [0x27]).buf 0 (encode (.daa lp))
      ∧ HoldsBytes (src .b64 [0x01, 0xCA]).buf 0 (encode (.add_rm32_r32 lp mreg)) := by
  unfold HoldsBytes
  decide

theorem witness_DecodeOfEncodeVex :
    admissible smallParams.table = true ∧ (Instr.vex_vaddps_xmm_xmm_xmmm128 vp mreg).row.space = .vex
      ∧ WellFormedIn smallParams .b32 (.vex_vaddps_xmm_xmm_xmmm128 vp mreg) = true
      ∧ HoldsBytes (src .b32 [0xC5, 0xF8, 0x58, 0xCA]).buf 0 (encode (.vex_vaddps_xmm_xmm_xmmm128 vp mreg)) := by
  unfold HoldsBytes
  decide

theorem witness_DecodeOfEncodeEvex :
    admissible smallParams.table = true
      ∧ (Instr.evex_vaddps_zmm_k1z_zmm_zmmm512b32_er { ep with ll := 2 } mreg).row.space = .evex
      ∧ WellFormedIn smallParams .b16 (.evex_vaddps_zmm_k1z_zmm_zmmm512b32_er { ep with ll := 2 } mreg) = true
      ∧ HoldsBytes (src .b16 [0x62, 0xF1, 0x7C, 0x48, 0x58, 0xCA]).buf 0
          (encode (.evex_vaddps_zmm_k1z_zmm_zmmm512b32_er { ep with ll := 2 } mreg)) := by
  unfold HoldsBytes
  decide

/-- An answer of the decoder, of one byte and of fifteen, and of a row of another table: for DecodedPassesEveryCheck,
EncodeIsNeverLonger, DecodeReadsWithinBounds and StepRunsTheDecodedInstruction. -/
theorem witness_decode_answers :
    admissible smallParams.table = true
      ∧ (decode { src .b32 [0x27] with params := smallParams }).toOption.map (fun x => (x.1, x.2.pos))
          = some (.instr (.daa lp), 1)
      ∧ (decode { src .b32 [0x90] with params := smallParams }).toOption.map (fun x => (x.1, x.2.pos))
          = some (.row { Code.row .Hlt with code := .other "Nop", op := 0x90 } ⟨.legacy lp, 0, none, []⟩, 1)
      ∧ (decode (src .b32 (List.replicate 14 0x2E ++ [0x27]))).toOption.map (fun x => (x.1, x.2.pos))
          = some (.instr (.daa { lp with seg := some .CS }), 15) := by decide

theorem witness_EndOfInputOnlyAtBufferEnd :
    (match decode (src .b32 (List.replicate 14 0x66)) with
      | .error k => some k
      | .ok _ => none) = some .EndOfInput ∧ (src .b32 (List.replicate 14 0x66)).buf.len = 14 := by decide

theorem witness_DecodeNeverFailsOnLock :
    InTxn (inTxn .b32) (rq .b32) txn3
      ∧ exec (.daa { lp with lock := true }) (inTxn .b32) = .next (done (inTxn .b32) (.fail .InvalidLockUsage))
      ∧ destInMemory (.add_rm32_r32 { lp with lock := true } mmem) = true
      ∧ destInMemory (.add_rm32_r32 { lp with lock := true } mreg) = false
      ∧ responseOf (assembleRow (Code.row .Daa) ⟨.legacy { lp with lock := true }, 0, none, []⟩ (inTxn .b32))
        = some (.fail .InvalidLockUsage) :=
  ⟨inTxn_inTxn .b32, rfl, by decide, by decide, by decide⟩

theorem witness_AppendedBytesKeepTheAnswer :
    (∀ a, a < (src .b32 [0x27]).buf.len → (Memory.ofBytes [0x27, 0x99]).read a = (src .b32 [0x27]).buf.read a)
      ∧ decode (src .b32 [0x27]) ≠ .error .EndOfInput := by decide

theorem witness_RepeatedPrefixAddsOneByte :
    (legacyPrefix 0x2E PrefixState.initial).isSome = true
      ∧ (decode (src .b32 (0x2E :: [0x27]))).toOption.map (fun x => x.2.pos) = some 2
      ∧ (decode (src .b32 (0x2E :: 0x2E :: [0x27]))).toOption.map (fun x => (x.1, x.2.pos))
          = some (.instr (.daa { lp with seg := some .CS }), 3)
      ∧ (decode (src .b32 (List.replicate 13 0x2E ++ [0x27]))).toOption.map (fun x => x.2.pos) = some 14
      ∧ Params.reference.rom = .reference := by decide

/-- A waiting request that gets a record and one that fails: for StepRunsTheDecodedInstruction, StepAlwaysAnswersAState,
StepLeavesRequestAndBufferAlone, WindowDeterminesTheResponse, IpMovesOnlyBranchTargets. -/
theorem witness_pending :
    Pending (waiting .b32 [0x27]) (rq .b32) ∧ Pending (waiting .b64 [0x27]) (rq .b64)
      ∧ (responseOf (step (waiting .b32 [0x27]))).bind Response.code? = some (.ref .Daa)
      ∧ step (waiting .b64 [0x27]) = .next (done (waiting .b64 [0x27]) (.fail .InvalidModeForInstruction)) :=
  ⟨⟨rfl, rfl⟩, ⟨rfl, rfl⟩, by decide, rfl⟩

theorem witness_IdleBlockDoesNothing :
    State.reset.request = none ∧ (done (waiting .b32 [0x27]) (.fail .EndOfInput)).response ≠ none := by decide

theorem witness_StepKeepsTheInvariant :
    (waitingSmall .b32 [0x27]).Inv ∧ ∃ s', step (waitingSmall .b32 [0x27]) = .next s' ∧ s'.response ≠ none :=
  ⟨⟨by decide, by decide, rfl, by intro r h; cases h⟩, _, rfl, by decide⟩

theorem witness_ResetHasTheInvariant : admissible smallParams.table = true := by decide

theorem witness_WindowDeterminesTheResponse :
    Pending (waiting .b32 [0x27]) (rq .b32)
      ∧ Pending (State.reset.submit (Memory.ofBytes [0x99, 0x27]) { rq .b32 with start := 1 }) { rq .b32 with start := 1 }
      ∧ (∀ k, k < 15 → (Memory.ofBytes [0x27]).read (0 + k) = (Memory.ofBytes [0x99, 0x27]).read (1 + k)) :=
  ⟨⟨rfl, rfl⟩, ⟨rfl, rfl⟩, by decide⟩

/-- An Ok response outside 64-bit mode, under a table without extended fixed registers: for
ReturnedRecordsMeetTheInvariants and NoExtendedRegisterOutside64. -/
theorem witness_ok_outside_64 :
    admissible (waitingSmall .b32 [0xC5, 0xF8, 0x58, 0xCA]).params.table = true
      ∧ Pending (waitingSmall .b32 [0xC5, 0xF8, 0x58, 0xCA]) (rq .b32) ∧ (rq .b32).bitness ≠ .b64
      ∧ (∀ y ∈ smallRom, y.ops.all (fun x => match x with
          | .fixed r => !Register.extended r
          | _ => true) = true)
      ∧ ∃ s' out, step (waitingSmall .b32 [0xC5, 0xF8, 0x58, 0xCA]) = .next s' ∧ s'.response = some (.ok out) ∧
          out.operands = [.register (.xmm 1), .register (.xmm 0), .register (.xmm 2), .none] :=
  ⟨by decide, ⟨rfl, rfl⟩, by decide, by decide, _, _, rfl, rfl, rfl⟩

theorem witness_CallerRunDecodesTheEncodedList :
    admissible smallParams.table = true
      ∧ ∀ x ∈ [(Bitness.b32, Instr.daa lp), (.b64, .vex_vaddps_xmm_xmm_xmmm128 vp mreg)],
          WellFormedIn smallParams x.1 x.2 = true ∧ x.2.fields.pfx.lock = false := by decide

/-- A row that the decoder takes for an instruction, its parts in the row's space. -/
theorem witness_MeaningsFollowTheTemplateWalk :
    decodedOf (Code.row .Daa) ⟨.legacy lp, 7, none, []⟩ = .instr (.daa lp)
      ∧ (Prefix.legacy lp).space = (Code.row .Daa).space
      ∧ ((Code.row .Add_EAX_imm32).ops.map (shapeBytes .a64)).sum = 4
      ∧ (trailStage (src .b64 [1, 2, 3, 4]) .a64 (Code.row .Add_EAX_imm32) (Txn.initial 0)).toOption.map (fun t => (t.pos, t.trail))
        = some (4, [1, 2, 3, 4]) := by decide

theorem witness_EveryInstructionCompletes :
    InTxn (inTxn .b32) (rq .b32) txn3 ∧ LockLegal (.daa lp) ∧ LockLegal (.add_rm32_r32 { lp with lock := true } mmem)
      ∧ (Code.row .Add_rm32_r32).lockable = true
      ∧ rowDestInMemory (Code.row .Add_rm32_r32) ⟨.legacy { lp with lock := true }, 0, some mmem, []⟩ = true :=
  ⟨inTxn_inTxn .b32, by unfold LockLegal; decide, by unfold LockLegal; decide, by decide, by decide⟩

theorem witness_MeaningsLeaveEverythingElse :
    (∃ s', exec (.daa lp) (inTxn .b32) = .next s')
      ∧ ∃ s', assembleRow (Code.row .Daa) ⟨.legacy lp, 0, none, []⟩ (inTxn .b32) = .next s' := ⟨⟨_, rfl⟩, _, rfl⟩

theorem witness_MemorySizeOfTheOperand :
    ∃ s' out, exec (.evex_vaddps_xmm_k1z_xmm_xmmm128b32 { ep with bcst := true } mmem) (inTxn .b64) = .next s' ∧
      s'.response = some (.ok out) ∧ (Code.row .EVEX_Vaddps_xmm_k1z_xmm_xmmm128b32).bcst ≠ 0 ∧
      rowAdmissible (Code.row .EVEX_Vaddps_xmm_k1z_xmm_xmmm128b32) = true ∧
      Operand.memory (resolveMem .b64 (.evex { ep with bcst := true }) 4 mmem) .Broadcast128_Float32 ∈ out.operands :=
  ⟨_, _, rfl, rfl, by decide, by decide, by decide⟩

theorem witness_RecordsOfRmRegRows :
    InTxn (inTxn .b32) (rq .b32) txn3 ∧ lp.lock = false ∧ responseOf (exec (.add_rm32_r32 lp mreg) (inTxn .b32)) ≠ none
      ∧ (({ lp with lock := true } : LegacyPrefix).lock = true ∧ mmem.mod ≠ 3)
      ∧ (responseOf (exec (.add_rm8_r8 { lp with lock := true } mmem) (inTxn .b32))).bind Response.code? ≠ none :=
  ⟨inTxn_inTxn .b32, rfl, by decide, by decide, by decide⟩

theorem witness_RecordsOfRegRmRows :
    InTxn (inTxn .b32) (rq .b32) txn3 ∧ lp.lock = false ∧ responseOf (exec (.mov_r16_rm16 lp mmem) (inTxn .b32)) ≠ none :=
  ⟨inTxn_inTxn .b32, rfl, by decide⟩

theorem witness_RecordsOfImmediateRows :
    InTxn (inTxn .b32) (rq .b32) txn3 ∧ lp.lock = false ∧ responseOf (exec (.add_rm32_imm8 lp { mreg with reg := 0 } 0x80) (inTxn .b32)) ≠ none
      ∧ (({ lp with lock := true } : LegacyPrefix).lock = true ∧ ({ mmem with reg := 0 } : ModRM).mod ≠ 3)
      ∧ (responseOf (exec (.add_rm32_imm32 { lp with lock := true } { mmem with reg := 0 } 1) (inTxn .b32))).bind Response.code? ≠ none :=
  ⟨inTxn_inTxn .b32, rfl, by decide, by decide, by decide⟩

theorem witness_RecordsOfIncDecRows :
    InTxn (inTxn .b32) (rq .b32) txn3 ∧ lp.lock = false ∧ responseOf (exec (.inc_r32 lp 5) (inTxn .b32)) ≠ none
      ∧ (({ lp with lock := true } : LegacyPrefix).lock = true ∧ ({ mmem with reg := 0 } : ModRM).mod ≠ 3)
      ∧ (responseOf (exec (.inc_rm8 { lp with lock := true } { mmem with reg := 0 }) (inTxn .b32))).bind Response.code? ≠ none :=
  ⟨inTxn_inTxn .b32, rfl, by decide, by decide, by decide⟩

theorem witness_RecordsOfMoffsAndLeaRows :
    InTxn (inTxn .b32) (rq .b32) txn3 ∧ lp.lock = false ∧ responseOf (exec (.mov_AL_moffs8 lp (.a32 0xFFFFFFFF)) (inTxn .b32)) ≠ none :=
  ⟨inTxn_inTxn .b32, rfl, by decide⟩

theorem witness_RecordsOfBranchRows :
    InTxn (inTxn .b32) (rq .b32) txn3 ∧ lp.lock = false ∧ responseOf (exec (.je_rel8_32 lp 0x80) (inTxn .b32)) ≠ none :=
  ⟨inTxn_inTxn .b32, rfl, by decide⟩

theorem witness_RecordsOfOperandlessRows :
    InTxn (inTxn .b32) (rq .b32) txn3 ∧ lp.lock = false ∧ responseOf (exec (.hlt lp) (inTxn .b32)) ≠ none :=
  ⟨inTxn_inTxn .b32, rfl, by decide⟩

theorem witness_RecordsOfMemoryOnlyRows :
    InTxn (inTxn .b32) (rq .b32) txn3 ∧ lp.lock = false ∧ responseOf (exec (.clflush_m8 lp { mmem with reg := 7 }) (inTxn .b32)) ≠ none :=
  ⟨inTxn_inTxn .b32, rfl, by decide⟩

theorem witness_RecordsOfMmxAndSseRows :
    InTxn (inTxn .b32) (rq .b32) txn3 ∧ lp.lock = false ∧ responseOf (exec (.addps_xmm_xmmm128 lp mreg) (inTxn .b32)) ≠ none :=
  ⟨inTxn_inTxn .b32, rfl, by decide⟩

theorem witness_RecordsOfVexRows :
    InTxn (inTxn .b32) (rq .b32) txn3 ∧ vp.lock = false ∧ responseOf (exec (.vex_vaddss_xmm_xmm_xmmm32 vp mreg) (inTxn .b32)) ≠ none :=
  ⟨inTxn_inTxn .b32, rfl, by decide⟩

theorem witness_RecordsOfEvexBroadcastAndRoundingRows :
    InTxn (inTxn .b32) (rq .b32) txn3 ∧ ({ ep with bcst := true } : EvexPrefix).lock = false ∧ responseOf (exec (.evex_vaddps_zmm_k1z_zmm_zmmm512b32_er { ep with bcst := true } mreg) (inTxn .b32)) ≠ none :=
  ⟨inTxn_inTxn .b32, rfl, by decide⟩

theorem witness_RecordsOfOtherEvexRows :
    InTxn (inTxn .b32) (rq .b32) txn3 ∧ ep.lock = false ∧ responseOf (exec (.evex_vmovdqa64_zmm_k1z_zmmm512 ep mmem) (inTxn .b32)) ≠ none :=
  ⟨inTxn_inTxn .b32, rfl, by decide⟩

theorem witness_OpmaskZeroingAndVexDefaults :
    featuresOk { PrefixState.initial with space := .evex, aaa := 5, z := true } mreg
        (Code.row .EVEX_Vpunpckldq_xmm_k1z_xmm_xmmm128b32) = true
      ∧ ({ ep with aaa := 0 } : EvexPrefix).aaa.toNat = 0 ∧ ({ ep with aaa := 7 } : EvexPrefix).aaa.toNat ≠ 0 := by decide

end Sys2Proof.Tests
end

section
/-! PROOFS. The meanings are the template walk (spec R260 to R271): what each declared shape yields, and that running what
was decoded from a selected row is assembling that row. -/

namespace Sys2Proof.Proofs

open Sys2Proof.Machine Sys2Proof.Laws

/-! ## Trailing bytes -/

/-- Byte order is little-endian (R61): the first `n` bytes give the value modulo `256^n`. -/
theorem leNat_take_modEq (n : Nat) (bs : List Byte) : leNat (bs.take n) ≡ leNat bs [MOD 256 ^ n] := by
  induction n generalizing bs with
  | zero => exact Nat.modEq_one
  | succ n ih =>
    cases bs with
    | nil => rfl
    | cons v vs =>
      rw [List.take_succ_cons, leNat, leNat, pow_succ']
      exact ((ih vs).mul_left' 256).add_left _

/-- A field of `w` bits takes nothing from the bytes past its own. -/
theorem leBits_take {w n : Nat} (h : w ≤ 8 * n) (bs : List Byte) : leBits w (bs.take n) = leBits w bs := by
  have hdvd : 2 ^ w ∣ 256 ^ n := by
    rw [show 256 = 2 ^ 8 from rfl, ← Nat.pow_mul]
    exact Nat.pow_dvd_pow 2 h
  apply BitVec.eq_of_toNat_eq
  simp only [leBits, BitVec.toNat_ofNat]
  exact (leNat_take_modEq n bs).of_dvd hdvd

/-! ## The environment and the shapes -/

section
variable (q : Request) (t : Txn) (y : Body) (p : Prefix) (m : ModRM)

@[simp] theorem envOf_bitness : (envOf q t y p m).bitness = q.bitness := rfl
@[simp] theorem envOf_ip : (envOf q t y p m).ip = q.ip := rfl
@[simp] theorem envOf_byteLength : (envOf q t y p m).byteLength = t.pos - q.start := rfl
@[simp] theorem envOf_pfx : (envOf q t y p m).pfx = p := rfl
@[simp] theorem envOf_modrm : (envOf q t y p m).modrm = m := rfl

end

theorem env_rm_of_reg {e : Env} (h : e.modrm.mod = 3) (c : RegClass) (size : MemorySize) :
    e.rm c size = .register (regOf c (rmNumber c e.pfx e.modrm.rm) e.pfx.rexPresent) := if_pos h

theorem env_rm_of_mem {e : Env} (h : e.modrm.mod ≠ 3) (c : RegClass) (size : MemorySize) :
    e.rm c size = .memory e.mem size := if_neg h

section
variable (e : Env) (r : Row) (low : BitVec 3) (c : RegClass) (n w : Nat) (bs : List Byte)

@[simp] theorem shapeOperand_reg : shapeOperand e r low (.reg c) bs = e.reg c := rfl
@[simp] theorem shapeOperand_vvvv : shapeOperand e r low (.vvvv c) bs = e.vvvv c := rfl
@[simp] theorem shapeOperand_opreg : shapeOperand e r low (.opreg c) bs = e.opreg c low := rfl
@[simp] theorem shapeOperand_fixed (x : Register) : shapeOperand e r low (.fixed x) bs = fixedReg x := rfl
@[simp] theorem shapeOperand_imm_zx : shapeOperand e r low (.imm n w false) bs = immZx (leBits (8 * n) bs) := rfl
@[simp] theorem shapeOperand_imm_sx : shapeOperand e r low (.imm n w true) bs = immSx w (leBits (8 * n) bs) := rfl
@[simp] theorem shapeOperand_rel : shapeOperand e r low (.rel n w) bs = e.near w (leBits (8 * n) bs) := rfl
@[simp] theorem shapeOperand_moffs :
    shapeOperand e r low .moffs bs = e.moffs (Moffs.ofBytes bs) (r.mem.getD .Unknown) := rfl

end

section
variable {r : Row} (e : Env) (low : BitVec 3) (bs : List Byte)

/-- The size of a row without a broadcast form does not depend on the broadcast bit (R270). -/
theorem shapeOperand_rm_of_memB_none (h : r.memB = none) (c : RegClass) :
    shapeOperand e r low (.rm c) bs = e.rm c (r.mem.getD .Unknown) := by
  simp [shapeOperand, rowMemorySize, h]

theorem shapeOperand_rm_of_memB_some {z : MemorySize} (h : r.memB = some z) (c : RegClass) :
    shapeOperand e r low (.rm c) bs = e.rmBcst c (r.mem.getD .Unknown) z := by
  simp [shapeOperand, rowMemorySize, h, Env.rmBcst]

theorem shapeOperand_mem_of_memB_none (h : r.memB = none) :
    shapeOperand e r low .mem bs = e.memory (r.mem.getD .Unknown) := by
  simp [shapeOperand, rowMemorySize, h]

end

/-! ## Meanings and the assembler -/

/-- A meaning is the assembler on a row when it has the row's body, `Prefix` part and operands, and its ModRM part gives the
same vector-extension fields. -/
theorem answer_eq_assembleRow {y : Body} {p : Prefix} {m : Option ModRM} {ops : Env → List Operand} {r : Row} {f : Parts}
    (s : State) (hy : y = Row.body r) (hp : p = f.pfx)
    (hvec : ∀ params, vecExt params y (m.getD ModRM.zero) p = vecExt params y f.m p)
    (hops : ∀ q t, ops (envOf q t y p (m.getD ModRM.zero)) = rowOperands (envOf q t y p f.m) r f) :
    answer y p m ops s = assembleRow r f s := by
  subst hy hp
  have hrec : ∀ q t, answerRecord s q t (Row.body r) f.pfx m ops =
      answerRecord s q t (Row.body r) f.pfx f.modrm fun e => rowOperands e r f := fun q t => by
    simp only [answerRecord, hops, recordOf]
    congr 1
    exact hvec _
  rw [assembleRow]
  rcases answer_cases (Row.body r) f.pfx m ops s with ⟨q, t, hin, e⟩ | ⟨hout, e⟩
  · rw [e, answer_inTxn hin, hrec]
  · rcases answer_cases (Row.body r) f.pfx f.modrm (fun e => rowOperands e r f) s with
      ⟨q, t, ⟨hq, ht⟩, -⟩ | ⟨-, e'⟩
    · simp [hq, ht] at hout
    · rw [e, e']

/-- A `Prefix` read as one of this encoding space, as `Instr.build` reads it. -/
def prefixInSpace (p : Prefix) : Space → Prefix
  | .legacy => .legacy p.asLegacy
  | .vex => .vex p.asVex
  | .evex => .evex p.asEvex

theorem prefixInSpace_eq_self {p : Prefix} {sp : Space} (h : p.space = sp) : prefixInSpace p sp = p := by
  subst h
  cases p <;> rfl

/-- Code by code, the meaning's operands are what the walk over the row's shapes yields. -/
theorem exec_build_inSpace (f : Parts) (c : Code) (s : State) :
    exec (Instr.build { toParts := f, code := c }) s =
      assembleRow c.row { f with pfx := prefixInSpace f.pfx c.row.space } s := by
  cases c
  all_goals
    refine answer_eq_assembleRow s rfl rfl (fun _ => rfl) fun q t => ?_
    simp [rowOperands, Code.row, legacyRow, vexRow, evexRow, trailSlices, sliceLength, trailLength, shapeBytes,
      shapeOperand_rm_of_memB_none, shapeOperand_rm_of_memB_some, shapeOperand_mem_of_memB_none, leBits_take,
      Env.opreg, Env.near, Env.moffs, Parts.m]

theorem exec_build (f : Parts) {c : Code} (h : f.pfx.space = c.row.space) (s : State) :
    exec (Instr.build { toParts := f, code := c }) s = assembleRow c.row f s := by
  rw [exec_build_inSpace, prefixInSpace_eq_self h]

/-- The assembler reads neither of the two keys in which a reference row may differ from its code's row. -/
theorem assembleRow_of_keys (r : Row) (osz : Option OpSize) (bs : List Bitness) (f : Parts) (s : State) :
    assembleRow { r with osz := osz, bitness := bs } f s = assembleRow r f s := rfl

theorem decodedOf_row {r r' : Row} {f f' : Parts} (h : decodedOf r f = .row r' f') : r' = r ∧ f' = f := by
  unfold decodedOf at h
  split at h
  · split at h
    · cases h
    · cases h; exact ⟨rfl, rfl⟩
  · cases h; exact ⟨rfl, rfl⟩

/-- Running what a selected row and its parts are decoded to is assembling that row, whichever table it is from. -/
theorem runDecoded_decodedOf {r : Row} {f : Parts} (h : f.pfx.space = r.space) (s : State) :
    runDecoded (decodedOf r f) s = assembleRow r f s := by
  cases hd : decodedOf r f with
  | instr i =>
    obtain ⟨c, hc, href, rfl⟩ := decodedOf_instr.mp hd
    have hrow := isReference_eq hc href
    have hspace : f.pfx.space = c.row.space := by rw [h, ← hrow]
    rw [runDecoded_instr, exec_build f hspace, ← hrow, assembleRow_of_keys]
  | row r' f' =>
    obtain ⟨rfl, rfl⟩ := decodedOf_row hd
    rfl

end Sys2Proof.Proofs
end

section
/-! PROOFS. The record of a row (spec R33, R36, R43, R276): its slots, its operands of kind Memory, its vector-extension
fields, and that it meets the invariants of the data model when the row fits the parts read. -/

namespace Sys2Proof.Proofs

open Sys2Proof.Machine Sys2Proof.Laws

/-! ## Operands of kind Memory -/

/-- The shape becomes an operand of kind Memory under this ModRM part (R262, R263, R269). -/
def yieldsMemory (m : ModRM) : Shape → Bool
  | .rm _ => decide (m.mod ≠ 3)
  | .mem => true
  | .moffs => true
  | .reg _ => false
  | .vvvv _ => false
  | .opreg _ => false
  | .fixed _ => false
  | .imm _ _ _ => false
  | .rel _ _ => false

theorem memLike_of_yieldsMemory {m : ModRM} {s : Shape} (h : yieldsMemory m s = true) : s.memLike = true := by
  cases s with
  | rm _ | mem | moffs => rfl
  | _ => cases h

theorem isMemory_shapeOperand (e : Env) (r : Row) (low : BitVec 3) (s : Shape) (bs : List Byte) :
    (shapeOperand e r low s bs).isMemory = yieldsMemory e.modrm s := by
  cases s with
  | rm c =>
    by_cases hm : e.modrm.mod = 3
    · rw [shapeOperand, env_rm_of_reg hm]
      exact (decide_eq_false (not_not_intro hm)).symm
    · rw [shapeOperand, env_rm_of_mem hm]
      exact (decide_eq_true hm).symm
  | imm n w sx => cases sx <;> rfl
  | _ => rfl

theorem shapeOperand_ne_none (e : Env) (r : Row) (low : BitVec 3) (s : Shape) (bs : List Byte) :
    shapeOperand e r low s bs ≠ .none := by
  cases s with
  | rm c =>
    by_cases hm : e.modrm.mod = 3
    · rw [shapeOperand, env_rm_of_reg hm]
      exact Operand.noConfusion
    · rw [shapeOperand, env_rm_of_mem hm]
      exact Operand.noConfusion
  | imm n w sx => cases sx <;> exact Operand.noConfusion
  | _ => exact Operand.noConfusion

theorem countP_isMemory_rowOperands (e : Env) (r : Row) (f : Parts) :
    (rowOperands e r f).countP Operand.isMemory = r.ops.countP (yieldsMemory e.modrm) := by
  conv_rhs => rw [← trailSlices_shapes (e.pfx.addrSize e.bitness) f.trail r.ops, List.countP_map]
  rw [rowOperands, List.countP_map]
  congr 1
  funext x
  exact isMemory_shapeOperand ..

theorem ne_none_of_mem_rowOperands {e : Env} {r : Row} {f : Parts} {o : Operand} (h : o ∈ rowOperands e r f) :
    o ≠ .none := by
  obtain ⟨x, -, rfl⟩ := List.mem_map.mp h
  exact shapeOperand_ne_none e r f.low x.1 x.2

/-! ## Operand slots -/

theorem operandSlots_eq_append {ops : List Operand} (h : ops.length ≤ maxOperands) :
    operandSlots ops = ops ++ List.replicate (maxOperands - ops.length) .none := by
  rw [operandSlots, List.take_append, List.take_of_length_le h, List.take_replicate, Nat.min_eq_left (Nat.sub_le _ _)]

/-- Exactly the slots past the operands are of kind `None` (R276). -/
theorem operandSlots_eq_none_iff {ops : List Operand} (h : ops.length ≤ maxOperands) (hn : ∀ o ∈ ops, o ≠ .none)
    {k : Nat} (hk : k < maxOperands) : (operandSlots ops)[k]? = some .none ↔ ops.length ≤ k := by
  rw [operandSlots_eq_append h]
  by_cases hlt : k < ops.length
  · have hne := hn _ (List.getElem_mem hlt)
    simp [List.getElem?_append_left hlt, hne, hlt]
  · rw [List.getElem?_append_right (by omega), List.getElem?_replicate_of_lt (by omega)]
    simp only [true_iff]
    omega

theorem countP_isMemory_operandSlots {ops : List Operand} (h : ops.length ≤ maxOperands) :
    (operandSlots ops).countP Operand.isMemory = ops.countP Operand.isMemory := by
  simp [operandSlots_eq_append h, List.countP_append, List.countP_replicate, Operand.isMemory]

/-! ## The record and the response of a row -/

/-- The record that the assembler makes of a row in a transaction. -/
def rowRecord (s : State) (q : Request) (t : Txn) (r : Row) (f : Parts) : Instruction :=
  answerRecord s q t (Row.body r) f.pfx f.modrm fun e => rowOperands e r f

/-- The response of the assembler on a row: its record, or the failure of the LOCK check (R274, R278). -/
def rowResponse (s : State) (q : Request) (t : Txn) (r : Row) (f : Parts) : Response :=
  if lockRefused (Row.body r) f.pfx (rowRecord s q t r f) then .fail .InvalidLockUsage else .ok (rowRecord s q t r f)

theorem assembleRow_inTxn {s : State} {q : Request} {t : Txn} (h : InTxn s q t) (r : Row) (f : Parts) :
    assembleRow r f s = .next (done s (rowResponse s q t r f)) := answer_inTxn h ..

theorem rowResponse_ok {s : State} {q : Request} {t : Txn} {r : Row} {f : Parts} {out : Instruction}
    (h : rowResponse s q t r f = .ok out) : out = rowRecord s q t r f := by
  unfold rowResponse at h
  split at h
  · cases h
  · cases h; rfl

section
variable (s : State) (q : Request) (t : Txn) (r : Row) (f : Parts)

@[simp] theorem rowRecord_code : (rowRecord s q t r f).code = r.code := rfl

@[simp] theorem rowRecord_byteLength : (rowRecord s q t r f).byteLength = t.pos - q.start := rfl

@[simp] theorem rowRecord_vec : (rowRecord s q t r f).vec = vecExt s.params (Row.body r) f.m f.pfx := rfl

@[simp] theorem rowRecord_operands :
    (rowRecord s q t r f).operands = operandSlots (rowOperands (envOf q t (Row.body r) f.pfx f.m) r f) := rfl

@[simp] theorem rowRecord_opCount : (rowRecord s q t r f).opCount = r.ops.length := rowOperands_length ..

theorem memoryCount_rowRecord (h : r.ops.length ≤ maxOperands) :
    memoryCount (rowRecord s q t r f) = r.ops.countP (yieldsMemory f.m) := by
  have hlen : (rowOperands (envOf q t (Row.body r) f.pfx f.m) r f).length ≤ maxOperands := by rwa [rowOperands_length]
  rw [memoryCount, ← List.countP_eq_length_filter, rowRecord_operands, countP_isMemory_operandSlots hlen,
    countP_isMemory_rowOperands, envOf_modrm]

end

/-! ## Rows that fit what was read -/

/-- What the conditions on an admissible row say of its operands: (c), (d) and (f) of R203, and no ModRM byte beside a
direct address (R31). -/
theorem rowAdmissible_operands {r : Row} (h : rowAdmissible r = true) :
    r.ops.length ≤ maxOperands ∧ r.ops.countP Shape.memLike ≤ 1 ∧ (Shape.mem ∈ r.ops → r.mod = some .mem) ∧
      (Shape.moffs ∈ r.ops → r.hasModrm = false) := by
  simp only [rowAdmissible, Bool.and_eq_true, decide_eq_true_eq] at h
  obtain ⟨⟨⟨⟨⟨⟨⟨⟨⟨⟨hlen, hcount⟩, -⟩, hmem⟩, -⟩, -⟩, -⟩, -⟩, -⟩, -⟩, hmoffs⟩ := h
  refine ⟨hlen, by rwa [List.countP_eq_length_filter], fun hs => ?_, fun hs => ?_⟩
  · simpa [hs] using hmem
  · simpa [hs] using hmoffs

/-- The row fits the parts read: their encoding space, its `mod` key, and the features that it permits (R193, R195, R199). -/
structure RowFits (r : Row) (f : Parts) : Prop where
  space : f.pfx.space = r.space
  mod : wfMod r f.m = true
  features : wfFeatures r f.pfx f.m = true

theorem countP_yieldsMemory_le_one {r : Row} (h : rowAdmissible r = true) (m : ModRM) :
    r.ops.countP (yieldsMemory m) ≤ 1 := by
  obtain ⟨-, hcount, -, -⟩ := rowAdmissible_operands h
  exact (List.countP_mono_left fun _ _ => memLike_of_yieldsMemory).trans hcount

/-- A register-only form has no operand in memory: `mem` asks for another `mod`, and a direct address for no ModRM byte. -/
theorem countP_yieldsMemory_eq_zero {r : Row} {f : Parts} (h : rowAdmissible r = true) (hmod : wfMod r f.m = true)
    (hm : f.modrm.isSome = r.hasModrm) (h3 : f.m.mod = 3) : r.ops.countP (yieldsMemory f.m) = 0 := by
  obtain ⟨-, -, hmem, hmoffs⟩ := rowAdmissible_operands h
  refine List.countP_eq_zero.mpr fun s hs hy => ?_
  cases s with
  | rm c => simp [yieldsMemory, h3] at hy
  | mem => simp [wfMod, hmem hs, h3] at hmod
  | moffs =>
    have hnone : f.modrm = none := by simpa [hmoffs hs] using hm
    simp [Parts.m, hnone, ModRM.zero] at h3
  | _ => cases hy

/-! ## Vector-extension fields -/

theorem vecExt_isSome_iff (params : Params) (y : Body) (m : ModRM) (p : Prefix) :
    (vecExt params y m p).isSome = true ↔ p.space ≠ .legacy := by
  cases p <;> simp [vecExt, Prefix.space]

/-- After the feature checks (R199), opmask, zeroing, rounding and SAE stand only where the row permits them, the last two
only in a register-only EVEX form with `b` = 1 (R291 to R294). -/
theorem vecExt_permitted {params : Params} {r : Row} {m : ModRM} {p : Prefix} {v : VecExt}
    (hf : wfFeatures r p m = true) (hv : vecExt params (Row.body r) m p = some v) :
    v.opMask ≠ some 0 ∧ (v.opMask ≠ none → r.k = true) ∧
      (v.zeroingMasking = true → r.zeroing = true ∧ v.opMask ≠ none) ∧
      (v.roundingControl ≠ none ∨ v.suppressAllExceptions = true →
        r.ersae ≠ .none ∧ p.space = .evex ∧ p.bcst = true ∧ m.mod = 3) := by
  cases p with
  | legacy p => cases hv
  | vex p => cases hv; simp
  | evex e =>
    cases hv
    simp only [wfFeatures, Bool.and_eq_true] at hf
    obtain ⟨⟨⟨⟨hk, hz⟩, hza⟩, -⟩, her⟩ := hf
    have hmask : (if e.aaa = 0 then none else some e.aaa) ≠ none ↔ e.aaa ≠ 0 := by simp
    refine ⟨by simp, fun h => ?_, fun (hzm : e.z = true) => ⟨?_, hmask.mpr ?_⟩, fun h => ?_⟩
    · rw [Bool.or_eq_true, beq_iff_eq] at hk
      exact hk.resolve_left (hmask.mp h)
    · simpa [hzm] using hz
    · simpa [hzm] using hza
    · have hon : erSaeOn e m = true := by
        by_contra hoff
        simp [hoff] at h
      obtain ⟨hb, h3⟩ : e.bcst = true ∧ m.mod = 3 := by simpa [erSaeOn] using hon
      exact ⟨by simpa [hb, h3] using her, rfl, hb, h3⟩

/-- Rounding or SAE in a record: a register-only EVEX form with `b` = 1 (R294). -/
theorem register_form_of_rounding_or_sae {s : State} {q : Request} {t : Txn} {r : Row} {f : Parts} (hf : RowFits r f)
    (h : (rowRecord s q t r f).vec.any (fun v => v.roundingControl.isSome || v.suppressAllExceptions) = true) :
    r.space = .evex ∧ f.pfx.bcst = true ∧ f.m.mod = 3 := by
  obtain ⟨v, hv, hon⟩ := (Option.any_eq_true _ _).mp h
  obtain ⟨-, -, -, hpermit⟩ := vecExt_permitted hf.features hv
  have hset : v.roundingControl ≠ none ∨ v.suppressAllExceptions = true := by
    simpa [Option.isSome_iff_ne_none] using hon
  obtain ⟨-, hspace, hb, hmod⟩ := hpermit hset
  exact ⟨hf.space ▸ hspace, hb, hmod⟩

/-! ## The invariants of the record -/

theorem rowRecord_inv {s : State} {q : Request} {t : Txn} {r : Row} {f : Parts} (ha : rowAdmissible r = true)
    (hf : RowFits r f) (hm : f.modrm.isSome = r.hasModrm) (hpos : q.start < t.pos) (hlim : t.pos ≤ q.start + maxLen) :
    Instruction.Inv r (rowRecord s q t r f) := by
  have hlen := (rowAdmissible_operands ha).1
  refine ⟨rfl, operandSlots_length _, rowRecord_opCount .., fun k hk => ?_, ?_, ?_, ?_, ?_, fun v hv => ?_⟩
  · rw [rowRecord_operands, rowRecord_opCount, ← rowOperands_length (envOf q t (Row.body r) f.pfx f.m) r f]
    exact operandSlots_eq_none_iff (by rwa [rowOperands_length]) (fun _ => ne_none_of_mem_rowOperands) hk
  · rw [memoryCount_rowRecord _ _ _ _ _ hlen]
    exact countP_yieldsMemory_le_one ha _
  · rw [rowRecord_byteLength]; omega
  · rw [rowRecord_byteLength]; omega
  · rw [rowRecord_vec, vecExt_isSome_iff, hf.space]
  · obtain ⟨hzero, hk, hz, hpermit⟩ := vecExt_permitted hf.features hv
    refine ⟨hzero, hk, hz, fun h => ?_⟩
    obtain ⟨her, -, -, hmod⟩ := hpermit h
    rw [memoryCount_rowRecord _ _ _ _ _ hlen]
    exact ⟨her, countP_yieldsMemory_eq_zero ha hf.mod hm hmod⟩

end Sys2Proof.Proofs
end

section
/-! PROOFS. What a decode that succeeds has found (spec R150 to R154, R190 to R203): where `POS` stands, and that the
selected row fits the parts read. -/

namespace Sys2Proof.Proofs

open Sys2Proof.Machine Sys2Proof.Laws

/-! ## The byte cursor and the scanner -/

/-- `POS` goes from `a` to `b`, and where it moves it ends inside the length limit and inside the buffer (R60, R153). -/
def Advances (q : Source) (a b : Nat) : Prop := a ≤ b ∧ (a < b → b ≤ q.start + maxLen ∧ b ≤ q.buf.len)

theorem advances_refl (q : Source) (a : Nat) : Advances q a a := ⟨le_rfl, fun h => absurd h (Nat.lt_irrefl a)⟩

theorem Advances.trans {q : Source} {a b c : Nat} (h : Advances q a b) (h' : Advances q b c) : Advances q a c := by
  obtain ⟨hab, hb⟩ := h
  obtain ⟨hbc, hc⟩ := h'
  refine ⟨hab.trans hbc, fun hlt => ?_⟩
  rcases hbc.eq_or_lt with rfl | hbc
  · exact hb hlt
  · exact hc hbc

/-- There is no byte at or past `LEN` (R60). -/
theorem lt_len_of_read {b : Memory} {a : Nat} {v : Byte} (h : b.read a = some v) : a < b.len := by
  by_contra hge
  simp [Memory.read, hge] at h

theorem advances_of_peek {q : Source} {t : Txn} {v : Byte} (h : peek q t 0 = .ok v) :
    Advances q t.pos (t.pos + 1) := by
  obtain ⟨hlim, hread⟩ := peek_ok.mp h
  exact ⟨Nat.le_succ _, fun _ => ⟨hlim, lt_len_of_read hread⟩⟩

theorem advances_of_readBytes {q : Source} {n : Nat} {t t' : Txn} {bs : List Byte}
    (h : readBytes q n t = .ok (bs, t')) : Advances q t.pos t'.pos := by
  induction n generalizing t t' bs with
  | zero => cases h; exact advances_refl q _
  | succ n ih =>
    unfold readBytes at h
    split at h
    · cases h
    · rename_i v t1 h1
      obtain ⟨hpeek, rfl⟩ := readByte_ok.mp h1
      split at h
      · cases h
      · rename_i vs t2 h2
        cases h
        exact (advances_of_peek hpeek).trans (ih h2)

/-- `t'` is `t` after reading some bytes and changing `PS`: all that the scanner does (R160 to R174). -/
def Scanned (q : Source) (t t' : Txn) : Prop :=
  ∃ pos ps, t' = { t with pos := pos, ps := ps } ∧ Advances q t.pos pos

theorem Scanned.withPs {q : Source} {t t' : Txn} (h : Scanned q t t') (ps : PrefixState) :
    Scanned q t { t' with ps := ps } := by
  obtain ⟨pos, -, rfl, hadv⟩ := h
  exact ⟨pos, ps, rfl, hadv⟩

theorem Scanned.trans {q : Source} {t t1 t2 : Txn} (h : Scanned q t t1) (h' : Scanned q t1 t2) : Scanned q t t2 := by
  obtain ⟨pos, ps, rfl, hadv⟩ := h
  obtain ⟨pos', ps', rfl, hadv'⟩ := h'
  exact ⟨pos', ps', rfl, hadv.trans hadv'⟩

theorem scanned_refl (q : Source) (t : Txn) : Scanned q t t := ⟨t.pos, t.ps, rfl, advances_refl q _⟩

theorem scanned_of_readBytes {q : Source} {n : Nat} {t t' : Txn} {bs : List Byte}
    (h : readBytes q n t = .ok (bs, t')) : Scanned q t t' := by
  have hadv := advances_of_readBytes h
  obtain ⟨-, rfl⟩ := readBytes_ok h
  exact ⟨t.pos + n, t.ps, rfl, hadv⟩

theorem scanned_of_scanPrefixes {q : Source} {fuel : Nat} {t t' : Txn} (h : scanPrefixes q fuel t = .ok t') :
    Scanned q t t' := by
  induction fuel generalizing t with
  | zero => cases h
  | succ fuel ih =>
    obtain ⟨v, hpeek, ⟨-, rfl⟩ | ⟨ps, -, hrest⟩⟩ := scanPrefixes_ok h
    · exact scanned_refl q _
    · have hone : Scanned q t { advance t with ps := countPrefix ps } := ⟨_, _, rfl, advances_of_peek hpeek⟩
      exact hone.trans (ih hrest)

/-- The escape byte and its payload are read, and `PS` set from them, in each of the three forms (R166 to R168). -/
theorem readEscape_ok {q : Source} {e : Escape} {t t' : Txn} (h : readEscape q e t = .ok t') :
    ∃ n bs t1 ps, readBytes q n t = .ok (bs, t1) ∧ t' = { t1 with ps := ps } := by
  unfold readEscape at h
  split at h
  · split at h
    · rename_i hread; cases h; exact ⟨_, _, _, _, hread, rfl⟩
    · cases h
    · cases h
  · split at h
    · rename_i hread
      split at h
      · cases h
      · cases h; exact ⟨_, _, _, _, hread, rfl⟩
    · cases h
    · cases h
  · split at h
    · rename_i hread
      split at h
      · split at h
        · cases h
        · split at h
          · cases h; exact ⟨_, _, _, _, hread, rfl⟩
          · cases h
      · cases h
    · cases h
    · cases h

theorem scanned_of_prefixStage {q : Source} {t t' : Txn} (h : prefixStage q t = .ok t') : Scanned q t t' := by
  obtain ⟨t1, hscan, ⟨-, rfl⟩ | ⟨e, -, hesc⟩⟩ := prefixStage_ok h
  · exact (scanned_of_scanPrefixes hscan).withPs _
  · obtain ⟨t2, ps2, ps3, hescape, -, -, rfl⟩ := escapeStage_ok hesc
    obtain ⟨n, bs, t3, ps, hread, rfl⟩ := readEscape_ok hescape
    exact ((scanned_of_scanPrefixes hscan).trans (scanned_of_readBytes hread)).withPs _

/-! ## The dispatcher -/

theorem readOpcodeIn_ok {q : Source} {map : OpMap} {t t' : Txn} (h : readOpcodeIn q map t = .ok t') :
    ∃ v, peek q t 0 = .ok v ∧ t' = withOpcode (advance t) map v := by
  unfold readOpcodeIn at h
  split at h
  · cases h
  · rename_i v t1 hr
    obtain ⟨hpeek, rfl⟩ := readByte_ok.mp hr
    cases h
    exact ⟨v, hpeek, rfl⟩

/-- The opcode is read, in some map, with at least one byte (R191, R192). -/
theorem readOpcode_ok {q : Source} {t t' : Txn} (h : readOpcode q t = .ok t') :
    ∃ pos map v, t.pos < pos ∧ Advances q t.pos pos ∧ t' = withOpcode { t with pos := pos } map v := by
  unfold readOpcode at h
  split at h
  · cases h
  · rename_i v t1 h1
    obtain ⟨hp1, rfl⟩ := readByte_ok.mp h1
    have hadv1 := advances_of_peek hp1
    split at h
    · cases h; exact ⟨t.pos + 1, _, v, by omega, hadv1, rfl⟩
    · split at h
      · cases h; exact ⟨t.pos + 1, _, v, by omega, hadv1, rfl⟩
      · split at h
        · cases h
        · rename_i v2 t2 h2
          obtain ⟨hp2, rfl⟩ := readByte_ok.mp h2
          have hadv2 : Advances q t.pos (t.pos + 2) := hadv1.trans (advances_of_peek hp2)
          split at h
          · obtain ⟨v3, hp3, rfl⟩ := readOpcodeIn_ok h
            exact ⟨t.pos + 3, _, v3, by omega, hadv2.trans (advances_of_peek hp3), rfl⟩
          · split at h
            · obtain ⟨v3, hp3, rfl⟩ := readOpcodeIn_ok h
              exact ⟨t.pos + 3, _, v3, by omega, hadv2.trans (advances_of_peek hp3), rfl⟩
            · cases h; exact ⟨t.pos + 2, _, v2, by omega, hadv2, rfl⟩

/-- Two candidates of one opcode byte have overlapping opcode tests. -/
theorem opcodesOverlap_of_candidates {rows : List Row} {ps : PrefixState} {op : Byte} {r r' : Row}
    (h : r ∈ candidates rows ps op) (h' : r' ∈ candidates rows ps op) : opcodesOverlap r r' = true := by
  obtain ⟨-, hs, hm, ho⟩ := mem_candidates.mp h
  obtain ⟨-, hs', hm', ho'⟩ := mem_candidates.mp h'
  have hself (x y : Byte) : x &&& y &&& y = x &&& y := by rw [BitVec.and_assoc, BitVec.and_self]
  have hzero : (op &&& r.opmask ^^^ op &&& r'.opmask) &&& r.opmask &&& r'.opmask = 0 := by
    ext i hi
    simp only [BitVec.getElem_and, BitVec.getElem_xor]
    cases op[i] <;> cases r.opmask[i] <;> cases r'.opmask[i] <;> simp
  simp only [opcodesOverlap, Bool.and_eq_true, decide_eq_true_eq]
  refine ⟨⟨⟨⟨hs.trans hs'.symm, hm.trans hm'.symm⟩, ?_⟩, ?_⟩, ?_⟩
  · rw [← ho, ← ho', hzero]
  · rw [← ho, hself]
  · rw [← ho', hself]

/-- Under an admissible table, all candidates of one opcode byte agree on having a ModRM byte (R203 (a)). -/
theorem candidates_any_hasModrm {rows : List Row} {ps : PrefixState} {op : Byte} {r : Row}
    (ha : admissible rows = true) (h : r ∈ candidates rows ps op) :
    (candidates rows ps op).any (·.hasModrm) = r.hasModrm := by
  obtain ⟨hagree, -, -⟩ := (admissible_iff rows).mp ha
  have hsame (r' : Row) (h' : r' ∈ candidates rows ps op) : r'.hasModrm = r.hasModrm :=
    hagree r' (mem_candidates.mp h').1 r (mem_candidates.mp h).1 (opcodesOverlap_of_candidates h' h)
  rw [Bool.eq_iff_iff, List.any_eq_true]
  exact ⟨fun ⟨r', h', hr'⟩ => hsame r' h' ▸ hr', fun hr => ⟨r, h, hr⟩⟩

theorem psPrefix_space (ps : PrefixState) : (psPrefix ps).space = ps.space := by
  unfold psPrefix
  split <;> rename_i h <;> rw [h] <;> rfl

/-- The `mod` key of R195 is the check on the fields. -/
theorem wfMod_of_keyMatch {ps : PrefixState} {osz : OpSize} {m : ModRM} {r : Row} (h : keyMatch ps osz m r = true) :
    wfMod r m = true := by
  simp only [keyMatch, Bool.and_eq_true] at h
  obtain ⟨-, hmod⟩ := h
  unfold wfMod
  unfold modMatches at hmod
  cases hr : r.mod with
  | none => rfl
  | some c => cases c <;> simpa [hr] using hmod

theorem wfFeatures_of_featuresOk {ps : PrefixState} {m : ModRM} {r : Row} (h : featuresOk ps m r = true) :
    wfFeatures r (psPrefix ps) m = true := by
  unfold psPrefix
  split
  · rfl
  · rfl
  · rename_i hs
    simp only [featuresOk, hs, Bool.and_eq_true, Bool.not_eq_true', Bool.or_eq_true, ne_eq, not_true_eq_false,
      decide_false, Bool.false_eq_true, false_or] at h
    obtain ⟨⟨-, ⟨⟨⟨⟨hk, hz⟩, hza⟩, hb⟩, her⟩⟩, -⟩ := h
    simp only [wfFeatures, Bool.and_eq_true]
    refine ⟨⟨⟨⟨?_, ?_⟩, ?_⟩, ?_⟩, ?_⟩
    · simpa [or_iff_not_imp_left] using hk
    · simpa [or_iff_not_imp_left] using hz
    · simpa [or_iff_not_imp_left] using hza
    · simpa [or_assoc, or_iff_not_imp_left] using hb
    · simpa [or_assoc, or_iff_not_imp_left] using her

/-- What the dispatcher has found when it succeeds on a transaction without a ModRM byte: a row of the table that fits
what was read, and that has a ModRM byte, under an admissible table, exactly when one was read. -/
structure Dispatched (q : Source) (t : Txn) (r : Row) (t' : Txn) : Prop where
  mem : r ∈ q.params.table
  space : r.space = t'.ps.space
  mod : wfMod r (t'.modrm.getD ModRM.zero) = true
  features : wfFeatures r (psPrefix t'.ps) (t'.modrm.getD ModRM.zero) = true
  modrm : admissible q.params.table = true → t'.modrm.isSome = r.hasModrm
  lt : t.pos < t'.pos
  advances : Advances q t.pos t'.pos

theorem dispatched_of_dispatchStage {q : Source} {t t' : Txn} {r : Row} (hm : t.modrm = none)
    (h : dispatchStage q t = .ok (r, t')) : Dispatched q t r t' := by
  obtain ⟨t1, t2, hop, hmodrm, hsel, hfeat, rfl⟩ := dispatchStage_ok h
  obtain ⟨pos, map, v, hlt, hadv, rfl⟩ := readOpcode_ok hop
  obtain ⟨hcand, hkey, -, -⟩ := mem_inMode_selected.mp (selectRow_mem hsel)
  obtain ⟨hmem, hspace, -, -⟩ := mem_candidates.mp hcand
  have hany (ha : admissible q.params.table = true) := candidates_any_hasModrm ha hcand
  rcases readModRM_ok hmodrm with ⟨hc, w, hpeek, rfl⟩ | ⟨hc, rfl⟩
  · exact ⟨hmem, hspace, wfMod_of_keyMatch hkey, wfFeatures_of_featuresOk hfeat,
      fun ha => (hany ha ▸ hc).symm, Nat.lt_succ_of_lt hlt, hadv.trans (advances_of_peek hpeek)⟩
  · refine ⟨hmem, hspace, wfMod_of_keyMatch hkey, wfFeatures_of_featuresOk hfeat, fun ha => ?_, hlt, hadv⟩
    rw [← hany ha, hc]
    simp [hm]

/-! ## The reads after the dispatcher, and the whole decode -/

/-- The SIB byte and the displacement leave `PS`, the presence of ModRM and its `mod` alone. -/
theorem addressStage_frame {q : Source} {a : AddrSize} {t t' : Txn} (h : addressStage q a t = .ok t') :
    t'.ps = t.ps ∧ t'.modrm.isSome = t.modrm.isSome ∧
      (t'.modrm.getD ModRM.zero).mod = (t.modrm.getD ModRM.zero).mod ∧ Advances q t.pos t'.pos := by
  rcases addressStage_ok h with ⟨-, rfl⟩ | ⟨m, m1, t1, m2, t2, hm, hsib, hdisp, rfl⟩
  · exact ⟨rfl, rfl, rfl, advances_refl q _⟩
  · obtain ⟨bs, hread, rfl⟩ := readDisp_ok hdisp
    have hadv := advances_of_readBytes hread
    obtain ⟨-, rfl⟩ := readBytes_ok hread
    rcases readSib_ok hsib with ⟨-, v, hpeek, rfl, rfl⟩ | ⟨-, rfl, rfl⟩
    · exact ⟨rfl, by simp [hm], by simp [hm], (advances_of_peek hpeek).trans hadv⟩
    · exact ⟨rfl, by simp [hm], by simp [hm], hadv⟩

theorem trailStage_frame {q : Source} {a : AddrSize} {r : Row} {t t' : Txn} (h : trailStage q a r t = .ok t') :
    t'.ps = t.ps ∧ t'.modrm = t.modrm ∧ Advances q t.pos t'.pos := by
  obtain ⟨bs, hread, rfl⟩ := trailStage_ok h
  have hadv := advances_of_readBytes hread
  exact ⟨rfl, rfl, hadv⟩

theorem wfMod_congr {r : Row} {m m' : ModRM} (h : m'.mod = m.mod) : wfMod r m' = wfMod r m := by
  simp only [wfMod, h]

theorem wfFeatures_congr {r : Row} {p : Prefix} {m m' : ModRM} (h : m'.mod = m.mod) :
    wfFeatures r p m' = wfFeatures r p m := by
  simp only [wfFeatures, h]

/-- What a decode that succeeds has found: a row of the table that fits the parts read, in 1 to 15 bytes of the buffer. -/
structure DecodesTo (q : Source) (r : Row) (t : Txn) : Prop where
  mem : r ∈ q.params.table
  fits : RowFits r (txnParts t)
  modrm : admissible q.params.table = true → (txnParts t).modrm.isSome = r.hasModrm
  start_lt : q.start < t.pos
  le_limit : t.pos ≤ q.start + maxLen
  le_len : t.pos ≤ q.buf.len

theorem decode_decodesTo {q : Source} {d : Decoded} {t : Txn} (h : decode q = .ok (d, t)) :
    ∃ r, DecodesTo q r t ∧ d = decodedOf r (txnParts t) := by
  obtain ⟨t1, r, t2, t3, hpre, hdis, haddr, htrail, rfl⟩ := decode_ok h
  obtain ⟨pos, ps, rfl, hadv1⟩ := scanned_of_prefixStage hpre
  have hd := dispatched_of_dispatchStage rfl hdis
  obtain ⟨hps3, hsome, hmod, hadv3⟩ := addressStage_frame haddr
  obtain ⟨hps, hmodrm, hadv4⟩ := trailStage_frame htrail
  have hparts : (txnParts t).modrm = t3.modrm := hmodrm
  have hm : (txnParts t).m.mod = (t2.modrm.getD ModRM.zero).mod := by rw [Parts.m, hparts, hmod]
  have hpfx : (txnParts t).pfx = psPrefix t2.ps := by rw [← hps3, ← hps]; rfl
  have hstart : q.start < t.pos := calc
    q.start ≤ pos := hadv1.1
    _ < t2.pos := hd.lt
    _ ≤ t3.pos := hadv3.1
    _ ≤ t.pos := hadv4.1
  obtain ⟨hlim, hlen⟩ := (hadv1.trans (hd.advances.trans (hadv3.trans hadv4))).2 hstart
  refine ⟨r, ⟨hd.mem, ⟨?_, ?_, ?_⟩, fun ha => ?_, hstart, hlim, hlen⟩, rfl⟩
  · rw [hpfx, psPrefix_space, hd.space]
  · rw [wfMod_congr hm, hd.mod]
  · rw [hpfx, wfFeatures_congr hm, hd.features]
  · rw [hparts, hsome, hd.modrm ha]

end Sys2Proof.Proofs
end

section
/-! PROOFS. What one step can do (spec R13, R21, R335, R381), said once, and from it the statements about the state: the
records returned, the invariant, and that every step answers a state. -/

namespace Sys2Proof.Proofs

open Sys2Proof.Machine Sys2Proof.Laws

theorem step_idle {s : State} (h : ∀ q, ¬ Pending s q) : step s = .next s := by
  unfold step
  split
  · rfl
  · rename_i q hq
    split
    · rfl
    · rename_i hr; exact absurd ⟨hq, hr⟩ (h q)

theorem step_of_decode_error {s : State} {q : Request} {k : FailureKind} (hp : Pending s q)
    (h : decode (s.source q) = .error k) : step s = .next (done s (.fail k)) := by
  obtain ⟨hq, hr⟩ := hp
  simp only [step, hq, hr, h, fail_eq_done, done_begin]

theorem step_of_decode_ok {s : State} {q : Request} {d : Decoded} {t : Txn} (hp : Pending s q)
    (h : decode (s.source q) = .ok (d, t)) : step s = runDecoded d (s.withTxn t) := by
  obtain ⟨hq, hr⟩ := hp
  simp only [step, hq, hr, h]
  rfl

/-- What a step on a waiting request does when the decode succeeds: the template walk of the selected row. -/
theorem step_of_decodesTo {s : State} {q : Request} {r : Row} {t : Txn} (hp : Pending s q)
    (h : decode (s.source q) = .ok (decodedOf r (txnParts t), t)) (hd : DecodesTo (s.source q) r t) :
    step s = .next (done s (rowResponse s q t r (txnParts t))) := by
  have hin : InTxn (s.withTxn t) q t := ⟨hp.1, rfl⟩
  rw [step_of_decode_ok hp h, runDecoded_decodedOf hd.fits.space, assembleRow_inTxn hin]
  rfl

/-- Everything that a step can do. -/
theorem step_cases (s : State) :
    ((∀ q, ¬ Pending s q) ∧ step s = .next s) ∨
      (∃ q k, Pending s q ∧ decode (s.source q) = .error k ∧ step s = .next (done s (.fail k))) ∨
      ∃ q r t, Pending s q ∧ decode (s.source q) = .ok (decodedOf r (txnParts t), t) ∧ DecodesTo (s.source q) r t ∧
        step s = .next (done s (rowResponse s q t r (txnParts t))) := by
  by_cases hp : ∃ q, Pending s q
  · obtain ⟨q, hp⟩ := hp
    cases h : decode (s.source q) with
    | error k => exact .inr (.inl ⟨q, k, hp, h, step_of_decode_error hp h⟩)
    | ok x =>
      obtain ⟨d, t⟩ := x
      obtain ⟨r, hd, rfl⟩ := decode_decodesTo h
      exact .inr (.inr ⟨q, r, t, hp, h, hd, step_of_decodesTo hp h hd⟩)
  · exact .inl ⟨not_exists.mp hp, step_idle (not_exists.mp hp)⟩

theorem pending_unique {s : State} {q q' : Request} (h : Pending s q) (h' : Pending s q') : q = q' :=
  Option.some.inj (h.1.symm.trans h'.1)

/-- A step that answers `Ok` on a waiting request has assembled the record of the row that the decode selected. -/
theorem step_ok {s s' : State} {q : Request} {out : Instruction} (hp : Pending s q) (h : step s = .next s')
    (hr : s'.response = some (.ok out)) :
    ∃ r t, decode (s.source q) = .ok (decodedOf r (txnParts t), t) ∧ DecodesTo (s.source q) r t ∧
      out = rowRecord s q t r (txnParts t) := by
  rcases step_cases s with ⟨hidle, -⟩ | ⟨q', k, hp', -, hs⟩ | ⟨q', r, t, hp', hdec, hd, hs⟩
  · exact absurd hp (hidle q)
  · rw [hs] at h; cases h; cases hr
  · obtain rfl := pending_unique hp hp'
    rw [hs] at h
    cases h
    exact ⟨r, t, hdec, hd, rowResponse_ok (Option.some.inj hr)⟩

theorem inv_of_decodesTo {s : State} {q : Request} {r : Row} {t : Txn} (ha : admissible s.params.table = true)
    (hd : DecodesTo (s.source q) r t) : Instruction.Inv r (rowRecord s q t r (txnParts t)) := by
  obtain ⟨-, -, hrows⟩ := (admissible_iff _).mp ha
  exact rowRecord_inv (hrows r hd.mem) hd.fits (hd.modrm ha) hd.start_lt hd.le_limit

/-- Settles O34: an `Ok` step has assembled the record of the selected row, and that row fits the parts read. -/
theorem returnedRecordsMeetTheInvariants : Obligations.ReturnedRecordsMeetTheInvariants := by
  unfold Obligations.ReturnedRecordsMeetTheInvariants
  intro s s' q out ha hp h hr
  obtain ⟨r, t, hdec, hd, rfl⟩ := step_ok hp h hr
  have hend : q.start + (rowRecord s q t r (txnParts t)).byteLength = t.pos :=
    Nat.add_sub_cancel' (Nat.le_of_lt hd.start_lt)
  exact ⟨hend.trans_le hd.le_len, r, _, t, hd.mem, inv_of_decodesTo ha hd, hdec, rfl, hend,
    register_form_of_rounding_or_sae hd.fits⟩

/-- Settles O33: of the three things that a step can do, none is a fault or a refusal. -/
theorem stepAlwaysAnswersAState : Obligations.StepAlwaysAnswersAState := by
  unfold Obligations.StepAlwaysAnswersAState
  intro s
  rcases step_cases s with ⟨hidle, hs⟩ | ⟨q, k, -, -, hs⟩ | ⟨q, r, t, -, -, -, hs⟩
  · exact ⟨s, hs, fun q hp => absurd hp (hidle q)⟩
  · exact ⟨_, hs, fun _ _ => ⟨_, rfl⟩⟩
  · exact ⟨_, hs, fun _ _ => ⟨_, rfl⟩⟩

/-- Settles O35: an idle step keeps the state; a step on a waiting request is done with one response, and a record in it is
good by O34. -/
theorem stepKeepsTheInvariant : Obligations.StepKeepsTheInvariant := by
  unfold Obligations.StepKeepsTheInvariant
  intro s s' hinv h
  by_cases hp : ∃ q, Pending s q
  · obtain ⟨q, hp⟩ := hp
    obtain ⟨s1, hs1, hdone⟩ := stepAlwaysAnswersAState s
    obtain ⟨x, rfl⟩ := hdone q hp
    rw [hs1] at h
    cases h
    obtain ⟨ha, hb, -, -⟩ := hinv
    refine ⟨ha, hb, rfl, fun y hy => ⟨q, hp.1, fun out hout => ?_⟩⟩
    subst hout
    obtain ⟨hlen, r, _, _, hmem, hgood, -⟩ := returnedRecordsMeetTheInvariants s _ q out ha hp hs1 hy
    exact ⟨⟨r, hmem, hgood⟩, hlen⟩
  · rw [step_idle (not_exists.mp hp)] at h
    cases h
    exact hinv

/-- Settles O31: the equation of a step for each answer of the decoder. -/
theorem stepRunsTheDecodedInstruction : Obligations.StepRunsTheDecodedInstruction := by
  unfold Obligations.StepRunsTheDecodedInstruction
  intro s q hp
  exact ⟨fun i t h => step_of_decode_ok hp h, fun r f t h => step_of_decode_ok hp h,
    fun k h => step_of_decode_error hp h⟩

/-- Settles O37: field by field from the definitions of reset and of the start of a transaction. -/
theorem resetHoldsNothingTransient : Obligations.ResetHoldsNothingTransient := by
  unfold Obligations.ResetHoldsNothingTransient
  exact ⟨fun p => ⟨resetWith_params p, resetWith_request p, resetWith_txn p, resetWith_response p⟩, rfl,
    table_ignore66 _ rfl rfl, rfl, fun s q => ⟨begin_txn s q, rfl⟩⟩

end Sys2Proof.Proofs
end

section
/-! PROOFS. The frame of a meaning and of a step (spec R60, R69, R278, R342): each leaves behind the state before it, done
with one response, and a step of an idle block leaves the state itself. Nothing writes the buffer. -/

namespace Sys2Proof.Proofs

open Sys2Proof.Machine Sys2Proof.Laws

/-- Instruction by instruction, a meaning is operand assembly with a body, a prefix part and operands of its own. -/
theorem exec_eq_answer (i : Instr) : ∃ y p m ops, ∀ s, exec i s = answer y p m ops s := by
  cases i
  all_goals exact ⟨_, _, _, _, fun _ => rfl⟩

theorem exec_next {i : Instr} {s s' : State} (h : exec i s = .next s') : ∃ r, s' = done s r := by
  obtain ⟨y, p, m, ops, hexec⟩ := exec_eq_answer i
  exact answer_next ((hexec s).symm.trans h)

theorem assembleRow_next {r : Row} {f : Parts} {s s' : State} (h : assembleRow r f s = .next s') :
    ∃ x, s' = done s x := answer_next h

/-- A step either finds the block idle and keeps the state, or ends the transaction with one response. -/
theorem step_next {s s' : State} (h : step s = .next s') :
    ((∀ q, ¬ Pending s q) ∧ s' = s) ∨ ∃ r, s' = done s r := by
  rcases step_cases s with ⟨hidle, hs⟩ | ⟨q, k, -, -, hs⟩ | ⟨q, r, t, -, -, -, hs⟩
  · rw [hs] at h; cases h; exact .inl ⟨hidle, rfl⟩
  · rw [hs] at h; cases h; exact .inr ⟨_, rfl⟩
  · rw [hs] at h; cases h; exact .inr ⟨_, rfl⟩

/-- Settles O38: the state after a step is the same state, or the state done with a response, which keeps the parameters,
the request and the buffer and has no transaction. -/
theorem stepLeavesRequestAndBufferAlone : Obligations.StepLeavesRequestAndBufferAlone := by
  unfold Obligations.StepLeavesRequestAndBufferAlone
  intro s s' h
  rcases step_next h with ⟨hidle, rfl⟩ | ⟨r, rfl⟩
  · exact ⟨rfl, rfl, fun _ => rfl, rfl, fun q hp => absurd hp (hidle q)⟩
  · exact ⟨done_params s r, done_request s r, fun a => by rw [done_buf], by rw [done_buf], fun _ _ => done_txn s r⟩

/-- Settles O45: every meaning and the assembler end in operand assembly, whose only next state is the state done with a
response. -/
theorem meaningsLeaveEverythingElse : Obligations.MeaningsLeaveEverythingElse := by
  unfold Obligations.MeaningsLeaveEverythingElse
  intro s s' h
  have hdone : ∃ r, s' = done s r := by
    rcases h with ⟨i, hexec⟩ | ⟨r, f, hrow⟩
    · exact exec_next hexec
    · exact assembleRow_next hrow
  obtain ⟨r, rfl⟩ := hdone
  exact ⟨done_params s r, done_request s r, done_buf s r, fun a => by rw [done_buf], done_txn s r, by simp⟩

end Sys2Proof.Proofs
end

section
/-! PROOFS. Doubling the first legacy prefix byte (spec R119, R160 to R175): past that byte the decoder does on the longer
string what it does on the shorter one, one byte later and with one prefix byte more counted, as long as the length limit
(R153) leaves room for the byte. -/

namespace Sys2Proof.Proofs

open Sys2Proof.Machine Sys2Proof.Laws

/-! ## One byte later -/

/-- The transaction one byte further on, with one prefix byte more counted. -/
def oneLater (t : Txn) : Txn := { t with pos := t.pos + 1, ps := countPrefix t.ps }

/-- `q'` asks for the same as `q`, and has the byte of every index of `q` one index later. -/
structure OneLater (q q' : Source) : Prop where
  start : q'.start = q.start
  bitness : q'.bitness = q.bitness
  params : q'.params = q.params
  read : ∀ a, q'.buf.read (a + 1) = q.buf.read a

theorem oneLater_ofBytes_cons (b : Bitness) (prm : Params) (v : Byte) (bs : List Byte) :
    OneLater { buf := Memory.ofBytes bs, start := 0, bitness := b, params := prm }
      { buf := Memory.ofBytes (v :: bs), start := 0, bitness := b, params := prm } :=
  ⟨rfl, rfl, rfl, fun a => by simp only [ofBytes_read, List.getElem?_cons_succ]⟩

@[simp] theorem oneLater_pos (t : Txn) : (oneLater t).pos = t.pos + 1 := rfl
@[simp] theorem oneLater_ps (t : Txn) : (oneLater t).ps = countPrefix t.ps := rfl
@[simp] theorem oneLater_opcode (t : Txn) : (oneLater t).opcode = t.opcode := rfl
@[simp] theorem oneLater_modrm (t : Txn) : (oneLater t).modrm = t.modrm := rfl

@[simp] theorem withOpcode_oneLater (t : Txn) (map : OpMap) (v : Byte) :
    withOpcode (oneLater t) map v = oneLater (withOpcode t map v) := rfl

/-- How many prefix bytes were counted is no part of what was decoded. -/
@[simp] theorem txnParts_oneLater (t : Txn) : txnParts (oneLater t) = txnParts t := rfl

/-! ## Only the scan loop counts prefix bytes -/

/-- The legacy prefix bytes (R94). -/
def legacyPrefixBytes : List Byte := [0x66, 0x67, 0x26, 0x2E, 0x36, 0x3E, 0x64, 0x65, 0xF0, 0xF2, 0xF3]

/-- What a legacy prefix byte does to `PS`: it sets its class to its own member, so that the same byte once more changes
nothing, and neither looks at the count of prefix bytes nor changes the space (R94, R161). -/
structure SetsClass (f : PrefixState → PrefixState) : Prop where
  again : ∀ ps, f (clearRex (f ps)) = clearRex (f ps)
  count : ∀ ps, f (countPrefix ps) = countPrefix (f ps)
  space : ∀ ps, (f ps).space = ps.space

theorem legacyPrefix_cases (v : Byte) :
    (∃ f, SetsClass f ∧ ∀ ps, legacyPrefix v ps = some (f ps)) ∨ ∀ ps, legacyPrefix v ps = none := by
  by_cases hv : v ∈ legacyPrefixBytes
  · left
    simp only [legacyPrefixBytes, List.mem_cons, List.not_mem_nil, or_false] at hv
    rcases hv with rfl | rfl | rfl | rfl | rfl | rfl | rfl | rfl | rfl | rfl | rfl
    all_goals
      refine ⟨_, ?_, fun ps => rfl⟩
      exact ⟨fun _ => rfl, fun _ => rfl, fun _ => rfl⟩
  · right
    intro ps
    simp only [legacyPrefixBytes, List.mem_cons, List.not_mem_nil, or_false, not_or] at hv
    simp only [legacyPrefix, hv, if_false]

theorem scanByte_countPrefix (b : Bitness) (v : Byte) (ps : PrefixState) :
    scanByte b v (countPrefix ps) = (scanByte b v ps).map countPrefix := by
  unfold scanByte
  rcases legacyPrefix_cases v with ⟨f, hf, hv⟩ | hv
  · simp only [hv, hf.count]
    rfl
  · simp only [hv]
    split <;> rfl

theorem scanByte_space {b : Bitness} {v : Byte} {ps ps' : PrefixState} (h : scanByte b v ps = some ps') :
    ps'.space = ps.space := by
  unfold scanByte at h
  rcases legacyPrefix_cases v with ⟨f, hf, hv⟩ | hv
  · simp only [hv] at h
    cases h
    exact hf.space ps
  · simp only [hv] at h
    split at h
    · cases h; rfl
    · cases h

/-- A prefix class keeps its last member (R94, R163): the same legacy prefix byte once more is counted and nothing else. -/
theorem scanByte_again {v : Byte} {ps : PrefixState} (h : (legacyPrefix v ps).isSome = true) (b : Bitness) :
    ∃ ps', scanByte b v ps = some ps' ∧ scanByte b v (countPrefix ps') = some (countPrefix ps') := by
  rcases legacyPrefix_cases v with ⟨f, hf, hv⟩ | hv
  · refine ⟨clearRex (f ps), by simp only [scanByte, hv], ?_⟩
    simp only [scanByte, hv, hf.count, hf.again]
    rfl
  · simp [hv] at h

/-- The scan loop never leaves the Legacy space: only an escape does (R166 to R168). -/
theorem scanPrefixes_space {q : Source} {fuel : Nat} {t t' : Txn} (h : scanPrefixes q fuel t = .ok t') :
    t'.ps.space = t.ps.space := by
  induction fuel generalizing t with
  | zero => cases h
  | succ fuel ih =>
    obtain ⟨v, -, ⟨-, rfl⟩ | ⟨ps, hbyte, hrest⟩⟩ := scanPrefixes_ok h
    · rfl
    · have hspace : ps.space = t.ps.space := scanByte_space hbyte
      exact (ih hrest).trans hspace

theorem legacyBeforeEscape_countPrefix {q q' : Source} (hq : OneLater q q') {ps0 ps ps' : PrefixState}
    (h : legacyBeforeEscape q ps0 ps = .ok ps') :
    legacyBeforeEscape q' (countPrefix ps0) (countPrefix ps) = .ok (countPrefix ps') := by
  unfold legacyBeforeEscape at h ⊢
  rw [hq.params]
  split at h
  · rename_i hlegacy
    refine (if_pos hlegacy).trans ?_
    split at h
    · cases h
    · cases h; rfl
  · rename_i hlegacy
    refine (if_neg hlegacy).trans ?_
    cases h; rfl

theorem extensionBits_countPrefix {q q' : Source} (hq : OneLater q q') {ps ps' : PrefixState}
    (h : extensionBits q ps = .ok ps') : extensionBits q' (countPrefix ps) = .ok (countPrefix ps') := by
  unfold extensionBits at h ⊢
  rw [hq.params, hq.bitness]
  split at h
  · rename_i hbits
    refine (if_pos hbits).trans ?_
    split at h
    · cases h
    · cases h; rfl
  · rename_i hbits
    refine (if_neg hbits).trans ?_
    cases h; rfl

/-! ## The reads, one byte later

Each stage that succeeds on `q`, and ends where one byte more is still inside the length limit, succeeds on `q'`. -/

section
variable {q q' : Source} {t t' : Txn}

theorem peek_oneLater (hq : OneLater q q') {k : Nat} {v : Byte} (h : peek q t k = .ok v)
    (hroom : t.pos + k + 1 < q.start + maxLen) : peek q' (oneLater t) k = .ok v := by
  obtain ⟨-, hread⟩ := peek_ok.mp h
  have hpos : (oneLater t).pos + k = t.pos + k + 1 := Nat.add_right_comm ..
  rw [peek_ok, hpos, hq.start, hq.read]
  exact ⟨hroom, hread⟩

theorem readByte_oneLater (hq : OneLater q q') {v : Byte} (h : readByte q t = .ok (v, t'))
    (hroom : t'.pos < q.start + maxLen) : readByte q' (oneLater t) = .ok (v, oneLater t') := by
  obtain ⟨hpeek, rfl⟩ := readByte_ok.mp h
  exact readByte_ok.mpr ⟨peek_oneLater hq hpeek hroom, rfl⟩

theorem readBytes_oneLater (hq : OneLater q q') {n : Nat} {bs : List Byte} (h : readBytes q n t = .ok (bs, t'))
    (hroom : t'.pos < q.start + maxLen) : readBytes q' n (oneLater t) = .ok (bs, oneLater t') := by
  induction n generalizing t bs with
  | zero => cases h; rfl
  | succ n ih =>
    unfold readBytes at h
    split at h
    · cases h
    · rename_i v t1 hbyte
      split at h
      · cases h
      · rename_i vs t2 hrest
        cases h
        have hle : t1.pos ≤ t'.pos := (advances_of_readBytes hrest).1
        simp only [readBytes, readByte_oneLater hq hbyte (hle.trans_lt hroom), ih hrest]

/-- The scan loop needs one turn of fuel for each byte it scans and one for the byte that ends it. -/
theorem scanPrefixes_oneLater (hq : OneLater q q') {fuel fuel' : Nat} (h : scanPrefixes q fuel t = .ok t')
    (hroom : t'.pos + 1 < q.start + maxLen) (hfuel : t'.pos < t.pos + fuel') :
    scanPrefixes q' fuel' (oneLater t) = .ok (oneLater t') := by
  induction fuel generalizing t fuel' with
  | zero => cases h
  | succ fuel ih =>
    obtain ⟨pos, ps', ht', hle, -⟩ := scanned_of_scanPrefixes h
    have hpos : t.pos ≤ t'.pos := by rw [ht']; exact hle
    obtain ⟨n, rfl⟩ : ∃ n, fuel' = n + 1 := ⟨fuel' - 1, by omega⟩
    obtain ⟨v, hpeek, hturn⟩ := scanPrefixes_ok h
    unfold scanPrefixes
    rw [peek_oneLater hq hpeek (by omega)]
    simp only [hq.bitness, oneLater_ps, scanByte_countPrefix]
    rcases hturn with ⟨hend, rfl⟩ | ⟨ps, hbyte, hrest⟩
    · rw [hend]; rfl
    · rw [hbyte]
      exact ih hrest (by simp only [advance_pos]; omega)

/-- The escape test looks at the byte after an escape byte, so there it needs room for two bytes. -/
theorem escapeTest_oneLater (hq : OneLater q q') {o : Option Escape} (h : escapeTest q t = .ok o)
    (hroom : t.pos + 1 < q.start + maxLen)
    (hahead : ∀ v e, peek q t 0 = .ok v → escapeOf v = some e → t.pos + 2 < q.start + maxLen) :
    escapeTest q' (oneLater t) = .ok o := by
  unfold escapeTest at h ⊢
  split at h
  · cases h
  · rename_i v hpeek
    rw [peek_oneLater hq hpeek hroom, hq.bitness]
    split at h
    · rename_i hv; simpa only [hv] using h
    · rename_i e hv
      simp only [hv]
      split at h
      · rename_i h64; rw [if_pos h64]; exact h
      · rename_i h64
        rw [if_neg h64]
        split at h
        · cases h
        · rename_i v1 hpeek1
          rw [peek_oneLater hq hpeek1 (hahead v e hpeek hv)]
          exact h

/-- Reading an escape reads at least two bytes, and what it makes of them does not depend on where they stand nor on the
number of prefix bytes. -/
theorem readEscape_ok_oneLater {e : Escape} (h : readEscape q e t = .ok t') :
    t.pos + 2 ≤ t'.pos ∧
      (OneLater q q' → t'.pos < q.start + maxLen → readEscape q' e (oneLater t) = .ok (oneLater t')) := by
  unfold readEscape at h
  split at h
  · split at h
    · rename_i p0 p1 t1 hread
      cases h
      have hpos := (readBytes_ok hread).2
      refine ⟨by simp [hpos], fun hq hroom => ?_⟩
      simp only [readEscape, readBytes_oneLater hq hread hroom]
      rfl
    · cases h
    · cases h
  · split at h
    · rename_i p0 p1 p2 t1 hread
      have hpos := (readBytes_ok hread).2
      split at h
      · cases h
      · rename_i map hmap
        cases h
        refine ⟨by simp [hpos], fun hq hroom => ?_⟩
        simp only [readEscape, readBytes_oneLater hq hread hroom, hmap]
        rfl
    · cases h
    · cases h
  · split at h
    · rename_i p0 p1 p2 p3 t1 hread
      have hpos := (readBytes_ok hread).2
      split at h
      · rename_i hzero
        split at h
        · cases h
        · rename_i map hmap
          split at h
          · rename_i hone
            cases h
            refine ⟨by simp [hpos], fun hq hroom => ?_⟩
            simp only [readEscape, readBytes_oneLater hq hread hroom, hzero, hmap, hone, if_true]
            rfl
          · cases h
      · cases h
    · cases h
    · cases h

theorem escapeStage_pos {e : Escape} (h : escapeStage q e t = .ok t') : t.pos + 2 ≤ t'.pos := by
  obtain ⟨t1, ps2, ps3, hread, -, -, rfl⟩ := escapeStage_ok h
  exact (readEscape_ok_oneLater (q' := q) hread).1

theorem escapeStage_oneLater (hq : OneLater q q') {e : Escape} (h : escapeStage q e t = .ok t')
    (hroom : t'.pos < q.start + maxLen) : escapeStage q' e (oneLater t) = .ok (oneLater t') := by
  obtain ⟨t1, ps2, ps3, hread, hbefore, hbits, rfl⟩ := escapeStage_ok h
  simp only [escapeStage, (readEscape_ok_oneLater hread).2 hq hroom, oneLater_ps,
    legacyBeforeEscape_countPrefix hq hbefore, extensionBits_countPrefix hq hbits]
  rfl

theorem readOpcodeIn_oneLater (hq : OneLater q q') {map : OpMap} (h : readOpcodeIn q map t = .ok t')
    (hroom : t'.pos < q.start + maxLen) : readOpcodeIn q' map (oneLater t) = .ok (oneLater t') := by
  obtain ⟨v, hpeek, rfl⟩ := readOpcodeIn_ok h
  simp only [readOpcodeIn, readByte_oneLater hq (readByte_ok.mpr ⟨hpeek, rfl⟩) hroom, withOpcode_oneLater]

theorem readOpcode_oneLater (hq : OneLater q q') (h : readOpcode q t = .ok t')
    (hroom : t'.pos < q.start + maxLen) : readOpcode q' (oneLater t) = .ok (oneLater t') := by
  unfold readOpcode at h ⊢
  split at h
  · cases h
  · rename_i v t1 hbyte
    split at h
    · rename_i hspace
      cases h
      rw [readByte_oneLater hq hbyte hroom]
      exact if_pos hspace
    · rename_i hspace
      split at h
      · rename_i hesc
        cases h
        rw [readByte_oneLater hq hbyte hroom]
        exact (if_neg hspace).trans (if_pos hesc)
      · rename_i hesc
        split at h
        · cases h
        · rename_i v2 t2 hbyte2
          have h12 : t1.pos ≤ t2.pos := by rw [(readByte_ok.mp hbyte2).2]; exact Nat.le_succ _
          have h2 : t2.pos ≤ t'.pos := by
            split_ifs at h
            · obtain ⟨v3, -, rfl⟩ := readOpcodeIn_ok h; exact Nat.le_succ _
            · obtain ⟨v3, -, rfl⟩ := readOpcodeIn_ok h; exact Nat.le_succ _
            · cases h; exact le_rfl
          rw [readByte_oneLater hq hbyte ((h12.trans h2).trans_lt hroom)]
          refine ((if_neg hspace).trans (if_neg hesc)).trans ?_
          rw [readByte_oneLater hq hbyte2 (h2.trans_lt hroom)]
          dsimp only
          split_ifs at h ⊢
          · exact readOpcodeIn_oneLater hq h hroom
          · exact readOpcodeIn_oneLater hq h hroom
          · cases h; rfl

theorem readModRM_oneLater (hq : OneLater q q') {cand : List Row} (h : readModRM q cand t = .ok t')
    (hroom : t'.pos < q.start + maxLen) : readModRM q' cand (oneLater t) = .ok (oneLater t') := by
  rcases readModRM_ok h with ⟨hc, v, hpeek, rfl⟩ | ⟨hc, rfl⟩
  · simp only [readModRM, hc, if_true, readByte_oneLater hq (readByte_ok.mpr ⟨hpeek, rfl⟩) hroom]
    rfl
  · simp only [readModRM, hc, Bool.false_eq_true, if_false]

theorem dispatchStage_oneLater (hq : OneLater q q') {r : Row} (h : dispatchStage q t = .ok (r, t'))
    (hroom : t'.pos < q.start + maxLen) : dispatchStage q' (oneLater t) = .ok (r, oneLater t') := by
  obtain ⟨t1, t2, hop, hmodrm, hsel, hfeat, rfl⟩ := dispatchStage_ok h
  obtain ⟨hmem, -⟩ := mem_inMode_selected.mp (selectRow_mem hsel)
  have hcand : (candidates q.params.table t1.ps (t1.opcode.getD 0)).isEmpty = false :=
    List.isEmpty_eq_false_iff_exists_mem.mpr ⟨r, hmem⟩
  have h12 : t1.pos ≤ t2.pos := by
    rcases readModRM_ok hmodrm with ⟨-, v, -, rfl⟩ | ⟨-, rfl⟩
    · exact Nat.le_succ _
    · exact le_rfl
  have hcand_ps : candidates q.params.table (oneLater t1).ps = candidates q.params.table t1.ps := rfl
  have hsel_ps : selectRow q.bitness (oneLater t2).ps = selectRow q.bitness t2.ps := rfl
  have hfeat_ps : featuresOk (oneLater t2).ps = featuresOk t2.ps := rfl
  simp only [dispatchStage, readOpcode_oneLater hq hop (h12.trans_lt hroom), hq.params, hq.bitness, hcand_ps,
    oneLater_opcode, hcand, Bool.false_eq_true, if_false, readModRM_oneLater hq hmodrm hroom, hsel_ps, hfeat_ps,
    oneLater_modrm]
  simp only [oneLater_ps, countPrefix_w, countPrefix_has66, countPrefix_has67, hsel, hfeat, if_true]
  rfl

theorem addressStage_oneLater (hq : OneLater q q') {a : AddrSize} (h : addressStage q a t = .ok t')
    (hroom : t'.pos < q.start + maxLen) : addressStage q' a (oneLater t) = .ok (oneLater t') := by
  rcases addressStage_ok h with ⟨hm, rfl⟩ | ⟨m, m1, t1, m2, t2, hm, hsib, hdisp, rfl⟩
  · simp only [addressStage, oneLater_modrm, hm]
  · obtain ⟨bs, hread, rfl⟩ := readDisp_ok hdisp
    have h12 : t1.pos ≤ t2.pos := (advances_of_readBytes hread).1
    have hsib' : readSib q' a m (oneLater t) = .ok (m1, oneLater t1) := by
      rcases readSib_ok hsib with ⟨hf, v, hpeek, rfl, rfl⟩ | ⟨hf, rfl, rfl⟩
      · simp only [readSib, hf, if_true, readByte_oneLater hq (readByte_ok.mpr ⟨hpeek, rfl⟩) (h12.trans_lt hroom)]
      · simp only [readSib, hf, Bool.false_eq_true, if_false]
    simp only [addressStage, oneLater_modrm, hm, hsib', readDisp, readBytes_oneLater hq hread hroom]
    rfl

theorem trailStage_oneLater (hq : OneLater q q') {a : AddrSize} {r : Row} (h : trailStage q a r t = .ok t')
    (hroom : t'.pos < q.start + maxLen) : trailStage q' a r (oneLater t) = .ok (oneLater t') := by
  obtain ⟨bs, hread, rfl⟩ := trailStage_ok h
  simp only [trailStage, readBytes_oneLater hq hread hroom]
  rfl

/-! ## Room for the byte that the escape test looks at -/

/-- A row of the reference content, with or without the rows of `width16`, is a code's row up to two keys (R317). -/
theorem mem_reference_table {prm : Params} (hrom : prm.rom = .reference) {r : Row} (hr : r ∈ prm.table) :
    ∃ (c : Code) (osz : Option OpSize) (bs : List Bitness), r = { c.row with osz := osz, bitness := bs } := by
  cases hb : prm.branch66In64 with
  | ignore66 =>
    rw [table_ignore66 prm hrom hb] at hr
    obtain ⟨c, -, rfl⟩ := List.mem_map.mp hr
    exact ⟨c, _, _, rfl⟩
  | width16 =>
    rw [table_width16 prm hrom hb] at hr
    rcases List.mem_append.mp hr with hr | hr
    · obtain ⟨c, -, rfl⟩ := List.mem_map.mp hr
      exact ⟨c, _, _, rfl⟩
    · obtain ⟨x, -, hx⟩ := List.mem_flatMap.mp hr
      simp only [branchRows16, List.mem_cons, List.not_mem_nil, or_false] at hx
      rcases hx with rfl | rfl | rfl <;> exact ⟨_, _, _, rfl⟩

/-- The escape bytes (R165). -/
def escapeBytes : List Byte := [0xC5, 0xC4, 0x62]

theorem mem_escapeBytes_of_escapeOf {v : Byte} {e : Escape} (h : escapeOf v = some e) : v ∈ escapeBytes := by
  unfold escapeOf at h
  split_ifs at h <;> simp [escapeBytes, *]

/-- Code by code: a Legacy row of the one-byte map whose opcode is an escape byte has a ModRM byte (Bound, Les, Lds). -/
theorem code_escapeByte_hasModrm (c : Code) :
    (c.row.hasModrm || c.row.space != .legacy || c.row.map != .m1B
      || escapeBytes.all fun v => v &&& c.row.opmask != c.row.op) = true := by
  cases c <;> rfl

/-- Under the reference content an escape byte that is an opcode of the one-byte map has a ModRM byte after it. -/
theorem dispatchStage_pos_of_escapeByte {r : Row} (hrom : q.params.rom = .reference) (hspace : t.ps.space = .legacy)
    {v : Byte} (hpeek : peek q t 0 = .ok v) {e : Escape} (hv : escapeOf v = some e)
    (h : dispatchStage q t = .ok (r, t')) : t.pos + 2 ≤ t'.pos := by
  obtain ⟨t1, t2, hop, hmodrm, hsel, -, rfl⟩ := dispatchStage_ok h
  have hne : v ≠ 0x0F := by rintro rfl; cases hv
  have ht1 : t1 = withOpcode (advance t) .m1B v := by
    unfold readOpcode at hop
    rw [readByte_ok.mpr ⟨hpeek, rfl⟩] at hop
    simp only [hspace, ne_eq, not_true_eq_false, if_false, hne, not_false_eq_true, if_true, Except.ok.injEq] at hop
    exact hop.symm
  subst ht1
  obtain ⟨hcand, -⟩ := mem_inMode_selected.mp (selectRow_mem hsel)
  obtain ⟨hr, hrspace, hrmap, hrop⟩ := mem_candidates.mp hcand
  have hhas : r.hasModrm = true := by
    obtain ⟨c, osz, bs, rfl⟩ := mem_reference_table hrom hr
    have hc := code_escapeByte_hasModrm c
    simp only [Bool.or_eq_true, bne_iff_ne, List.all_eq_true] at hc
    rcases hc with ((hhas | hne) | hne) | hne
    · exact hhas
    · exact absurd (hrspace.trans hspace) hne
    · exact absurd hrmap hne
    · exact absurd hrop (hne v (mem_escapeBytes_of_escapeOf hv))
  rcases readModRM_ok hmodrm with ⟨-, w, -, rfl⟩ | ⟨hnone, -⟩
  · exact le_rfl
  · exact absurd hhas (by simpa using List.any_eq_false.mp hnone r hcand)

/-- Where the scan loop ends on an escape byte, a decode with one byte to spare has read past it twice, so the longer string
leaves room for the byte that the escape test looks at: the escape takes a payload and an opcode; without the escape the byte
is an opcode, and the reference content reads a ModRM byte after it. -/
theorem room_for_escapeTest {t1 t2 : Txn} {r : Row} {v : Byte} {e : Escape} (hspace : t.ps.space = .legacy)
    (hpeek : peek q t 0 = .ok v) (hv : escapeOf v = some e)
    (hend : (escapeTest q t = .ok none ∧ t1 = { t with ps := { t.ps with mp := legacyMp t.ps.rep t.ps.has66 } }) ∨
      ∃ e, escapeTest q t = .ok (some e) ∧ escapeStage q e t = .ok t1)
    (hm : t1.modrm = none) (hdis : dispatchStage q t1 = .ok (r, t2))
    (hroom : t2.pos + 1 < q.start + maxLen ∨ t2.pos < q.start + maxLen ∧ q.params.rom = .reference) :
    t.pos + 2 < q.start + maxLen := by
  have hlt := (dispatched_of_dispatchStage hm hdis).lt
  rcases hend with ⟨-, rfl⟩ | ⟨e', -, hesc⟩
  · rcases hroom with hroom | ⟨hroom, hrom⟩
    · exact (Nat.succ_le_succ hlt).trans_lt hroom
    · have hpos := dispatchStage_pos_of_escapeByte
        (t := { t with ps := { t.ps with mp := legacyMp t.ps.rep t.ps.has66 } }) hrom hspace hpeek hv hdis
      exact hpos.trans_lt hroom
  · have hpos := escapeStage_pos hesc
    omega

end

/-! ## Doubling the first prefix byte -/

section
variable {q q' : Source} {t : Txn}

/-- Everything after the scan loop, one byte later. -/
theorem decode_oneLater_of_scan (hq : OneLater q q') {t1 : Txn} {d : Decoded}
    (hscan : scanPrefixes q (maxLen + 1) (Txn.initial q.start) = .ok t1)
    (hscan' : t1.pos + 1 < q.start + maxLen →
      scanPrefixes q' (maxLen + 1) (Txn.initial q'.start) = .ok (oneLater t1))
    (h : decode q = .ok (d, t))
    (hroom : t.pos + 1 < q.start + maxLen ∨ t.pos < q.start + maxLen ∧ q.params.rom = .reference) :
    decode q' = .ok (d, oneLater t) := by
  obtain ⟨t2, r, t3, t4, hpre, hdis, haddr, htrail, rfl⟩ := decode_ok h
  obtain ⟨t1', hscan1, hend⟩ := prefixStage_ok hpre
  obtain rfl : t1' = t1 := Except.ok.inj (hscan1.symm.trans hscan)
  obtain ⟨pos, ps, hscanned, -⟩ := scanned_of_prefixStage hpre
  have hm : t2.modrm = none := by rw [hscanned]; rfl
  have hspace : t1'.ps.space = .legacy := scanPrefixes_space hscan
  have h12 : t1'.pos ≤ t2.pos := by
    rcases hend with ⟨-, rfl⟩ | ⟨e, -, hesc⟩
    · exact le_rfl
    · exact (Nat.le_add_right _ 2).trans (escapeStage_pos hesc)
  have h23 := (dispatched_of_dispatchStage hm hdis).lt
  obtain ⟨-, -, -, h34, -⟩ := addressStage_frame haddr
  obtain ⟨-, -, h45, -⟩ := trailStage_frame htrail
  have hlim : t.pos < q.start + maxLen := by omega
  have htest (o) (ho : escapeTest q t1' = .ok o) : escapeTest q' (oneLater t1') = .ok o :=
    escapeTest_oneLater hq ho (by omega) fun v e hpeek hv =>
      room_for_escapeTest hspace hpeek hv hend hm hdis
        (hroom.imp (fun hone => by omega) fun ⟨hnone, hrom⟩ => ⟨by omega, hrom⟩)
  have hpre' : prefixStage q' (Txn.initial q'.start) = .ok (oneLater t2) := by
    rw [prefixStage, hscan' (by omega)]
    rcases hend with ⟨hnone, rfl⟩ | ⟨e, hsome, hesc⟩
    · simp only [htest _ hnone]
      rfl
    · simp only [htest _ hsome, escapeStage_oneLater hq hesc (by omega)]
  have hasz : addrSize q'.bitness (oneLater t3).ps.has67 = addrSize q.bitness t3.ps.has67 := by
    rw [hq.bitness, oneLater_ps, countPrefix_has67]
  simp only [decode, hpre', dispatchStage_oneLater hq hdis (by omega), hasz,
    addressStage_oneLater hq haddr (by omega), trailStage_oneLater hq htrail hlim, txnParts_oneLater]

/-- The scan loop on a string whose first byte is a legacy prefix byte, and on the string with that byte doubled: two turns
there leave what one turn leaves here, one byte later. -/
theorem scanPrefixes_doubled (hq : OneLater q q') {v : Byte} {fuel : Nat}
    (hv : (legacyPrefix v t.ps).isSome = true) (hread : q.buf.read t.pos = some v) (hread' : q'.buf.read t.pos = some v)
    {t1 : Txn} (h : scanPrefixes q (fuel + 2) t = .ok t1) (hroom : t1.pos + 1 < q.start + maxLen)
    (hfuel : t1.pos ≤ t.pos + fuel) : scanPrefixes q' (fuel + 2) t = .ok (oneLater t1) := by
  obtain ⟨ps, hbyte, hagain⟩ := scanByte_again hv q.bitness
  obtain ⟨w, hpeek, hturn⟩ := scanPrefixes_ok h
  obtain ⟨hlim, hw⟩ := peek_ok.mp hpeek
  obtain rfl : w = v := Option.some.inj (hw.symm.trans hread)
  have hpeek' : peek q' t 0 = .ok w := peek_ok.mpr ⟨hq.start ▸ hlim, hread'⟩
  rcases hturn with ⟨hnone, -⟩ | ⟨ps', hsome, hrest⟩
  · rw [hnone] at hbyte; cases hbyte
  · obtain rfl : ps' = ps := Option.some.inj (hsome.symm.trans hbyte)
    obtain ⟨pos, ps1, hscanned, hle, -⟩ := scanned_of_scanPrefixes hrest
    have hpos : t.pos + 1 ≤ t1.pos := by rw [hscanned]; exact hle
    have hpeek1 : peek q' { advance t with ps := countPrefix ps' } 0 = .ok w :=
      peek_ok.mpr ⟨by simp only [hq.start, advance_pos]; omega, (hq.read t.pos).trans hread⟩
    rw [scanPrefixes, hpeek']
    simp only [hq.bitness, hbyte]
    rw [scanPrefixes, hpeek1]
    simp only [hq.bitness, hagain]
    exact scanPrefixes_oneLater hq hrest hroom (by simp only [advance_pos]; omega)

end

/-- Settles O30: after the doubled byte the scan loop has in `PS` what it has after the single one, and every later stage
does the same one byte later. -/
theorem repeatedPrefixAddsOneByte : Obligations.RepeatedPrefixAddsOneByte := by
  unfold Obligations.RepeatedPrefixAddsOneByte
  intro b prm v bs d t hv h hroom
  have hq := oneLater_ofBytes_cons b prm v (v :: bs)
  obtain ⟨t2, -, -, -, hpre, -⟩ := decode_ok h
  obtain ⟨t1, hscan, -⟩ := prefixStage_ok hpre
  refine ⟨oneLater t, decode_oneLater_of_scan hq hscan (fun hlim => ?_) h
    (hroom.imp (fun h14 => Nat.succ_lt_succ h14) id), rfl⟩
  refine scanPrefixes_doubled hq hv (ofBytes_read _ 0) (ofBytes_read _ 0) hscan hlim ?_
  simp only [maxLen, txnInitial_pos] at hlim ⊢
  omega

end Sys2Proof.Proofs
end

section
/-! PROOFS. The direct address and the records of its rows and of `Lea` (spec R61, R269, R436 to R458): a Legacy meaning
without LOCK responds with its record, a direct address is its bytes in little-endian order, and the trailing field of
these rows is those bytes and nothing else. -/

namespace Sys2Proof.Proofs

open Sys2Proof.Machine Sys2Proof.Laws

/-! ## Records of Legacy rows -/

/-- The record of a Legacy meaning is the one that the row's rule describes (R273, R290). -/
theorem answerRecord_legacy (s : State) (q : Request) (t : Txn) (p : LegacyPrefix) (c : Code) (any : Bool)
    (m : Option ModRM) (ops : Env → List Operand) :
    answerRecord s q t { code := .ref c, mpAny := any } (.legacy p) m ops =
      legacyRecord c p any (t.pos - q.start)
        (ops (envOf q t { code := .ref c, mpAny := any } (.legacy p) (m.getD ModRM.zero))) := by
  have hspace : decide ((Prefix.legacy p).space = .legacy) = true := rfl
  have hrep : hasRepFlag { code := .ref c, mpAny := any } (.legacy p) = (any && decide (p.rep = some .F3)) := by
    rw [hasRepFlag, hspace, Bool.and_true, Bool.and_comm]
    rfl
  have hrepne : hasRepneFlag { code := .ref c, mpAny := any } (.legacy p) = (any && decide (p.rep = some .F2)) := by
    rw [hasRepneFlag, hspace, Bool.and_true, Bool.and_comm]
    rfl
  simp only [answerRecord, recordOf, envOf_pfx, hrep, hrepne]
  rfl

/-- A Legacy meaning without LOCK passes the LOCK check and responds with its record (R274, R278). -/
theorem answer_legacy_of_not_lock {s : State} {q : Request} {t : Txn} {p : LegacyPrefix} {c : Code} {any : Bool}
    {m : Option ModRM} {ops : Env → List Operand} (h : InTxn s q t) (hlock : p.lock = false) :
    answer { code := .ref c, mpAny := any } (.legacy p) m ops s =
      .next (done s (.ok (legacyRecord c p any (t.pos - q.start)
        (ops (envOf q t { code := .ref c, mpAny := any } (.legacy p) (m.getD ModRM.zero)))))) := by
  have hpasses (y : Body) (out : Instruction) : lockRefused y (.legacy p) out = false := by
    simp only [lockRefused, Prefix.lock, hlock, Bool.false_and]
  simp only [answer_inTxn h, hpasses, Bool.false_eq_true, if_false, answerRecord_legacy]

/-! ## The direct address -/

/-- As many bits as the bytes have lose nothing of their value (R61). -/
theorem leBits_toNat {w : Nat} {bs : List Byte} (h : w = 8 * bs.length) : (leBits w bs).toNat = leNat bs := by
  have hlt := leNat_lt bs
  rw [show 256 = 2 ^ 8 from rfl, ← Nat.pow_mul, ← h] at hlt
  exact (BitVec.toNat_ofNat ..).trans (Nat.mod_eq_of_lt hlt)

theorem moffs_ofBytes_two {bs : List Byte} (h : bs.length = 2) : Moffs.ofBytes bs = .a16 (leBits 16 bs) := by
  simp [Moffs.ofBytes, h]

theorem moffs_ofBytes_four {bs : List Byte} (h : bs.length = 4) : Moffs.ofBytes bs = .a32 (leBits 32 bs) := by
  simp [Moffs.ofBytes, h]

theorem moffs_ofBytes_eight {bs : List Byte} (h : bs.length = 8) : Moffs.ofBytes bs = .a64 (leBits 64 bs) := by
  simp [Moffs.ofBytes, h]

/-- Bytes that stand in the buffer inside the length limit are read (R151, R154). -/
theorem readBytes_of_holdsBytes {q : Source} {bs : List Byte} {t : Txn} (hlim : t.pos + bs.length ≤ q.start + maxLen)
    (h : HoldsBytes q.buf t.pos bs) : readBytes q bs.length t = .ok (bs, { t with pos := t.pos + bs.length }) := by
  induction bs generalizing t with
  | nil => rfl
  | cons v vs ih =>
    rw [List.length_cons] at hlim ⊢
    have hfirst : readByte q t = .ok (v, advance t) :=
      readByte_ok.mpr ⟨peek_ok.mpr ⟨by omega, h 0 (Nat.succ_pos _)⟩, rfl⟩
    have hrest : HoldsBytes q.buf (advance t).pos vs := fun k hk => by
      rw [advance_pos, Nat.add_right_comm]
      exact h (k + 1) (Nat.succ_lt_succ hk)
    have hpos : (advance t).pos + vs.length = t.pos + (vs.length + 1) := Nat.add_right_comm ..
    simp only [readBytes, hfirst, ih (by omega) hrest, hpos]
    rfl

/-- The rows with a direct address (R447 to R454). -/
def moffsCodes : List Code :=
  [.Mov_AL_moffs8, .Mov_AX_moffs16, .Mov_EAX_moffs32, .Mov_RAX_moffs64, .Mov_moffs8_AL, .Mov_moffs16_AX,
   .Mov_moffs32_EAX, .Mov_moffs64_RAX]

/-- Their trailing field is the address alone (R111, R269). -/
theorem trailLength_of_mem_moffsCodes {c : Code} (h : c ∈ moffsCodes) (a : AddrSize) :
    trailLength a c.row.ops = a.bytes := by
  simp only [moffsCodes, List.mem_cons, List.not_mem_nil, or_false] at h
  rcases h with rfl | rfl | rfl | rfl | rfl | rfl | rfl | rfl <;> cases a <;> rfl

theorem trailStage_of_mem_moffsCodes {c : Code} (hc : c ∈ moffsCodes) {q : Source} {t : Txn} {a : AddrSize}
    {bs : List Byte} (hbs : bs.length = a.bytes) (hlim : t.pos + bs.length ≤ q.start + maxLen)
    (h : HoldsBytes q.buf t.pos bs) :
    trailStage q a c.row t = .ok { t with pos := t.pos + bs.length, trail := bs } := by
  simp only [trailStage, trailLength_of_mem_moffsCodes hc, ← hbs, readBytes_of_holdsBytes hlim h]

/-- Settles O51: each record is the one a Legacy meaning without LOCK responds with, its memory operand the descriptor of
its row's rule, and the address is what its bytes give. -/
theorem recordsOfMoffsAndLeaRows : Obligations.RecordsOfMoffsAndLeaRows := by
  unfold Obligations.RecordsOfMoffsAndLeaRows
  intro desc
  have hdesc : desc = moffsDesc := by
    funext p a
    cases a <;> cases hseg : p.seg <;> simp only [desc, moffsDesc, hseg, Option.getD]
  clear_value desc
  subst hdesc
  refine ⟨fun s q t p m a hin => ?_, fun e r low bs z hz => ?_, fun bs => ⟨fun h => ?_, fun h => ?_, fun h => ?_⟩,
    fun c hc q t a bs ha hlim hbs => ?_⟩
  · refine ⟨?_, ?_, ?_, ?_, ?_, ?_, ?_, ?_, ?_, ?_, ?_⟩
    all_goals exact answer_legacy_of_not_lock hin
  · rw [shapeOperand_moffs, hz]
    rfl
  · exact ⟨_, moffs_ofBytes_two h, leBits_toNat (by omega)⟩
  · exact ⟨_, moffs_ofBytes_four h, leBits_toNat (by omega)⟩
  · exact ⟨_, moffs_ofBytes_eight h, leBits_toNat (by omega)⟩
  · refine trailStage_of_mem_moffsCodes hc ?_ hlim hbs
    simp only [List.mem_cons, Prod.mk.injEq, List.not_mem_nil, or_false] at ha
    rcases ha with ⟨rfl, hlen⟩ | ⟨rfl, hlen⟩ | ⟨rfl, hlen⟩ <;> exact hlen

end Sys2Proof.Proofs
end

section
/-! PROOFS. The byte cursor (spec R150 to R154): `Peek` and `Read` at the length limit and at the end of the buffer, and a
read of `n` bytes as the little-endian value of what stands in the buffer. -/

namespace Sys2Proof.Proofs

open Sys2Proof.Machine Sys2Proof.Laws

/-! ## One byte -/

/-- There is a byte at every address below `LEN` (R60). -/
theorem exists_read_of_lt_len {b : Memory} {a : Nat} (h : a < b.len) : ∃ v, b.read a = some v :=
  ⟨_, if_pos h⟩

/-- Looking ahead after a `Read` is looking one byte further ahead before it (R150, R151). -/
theorem peek_advance (q : Source) (t : Txn) (k : Nat) : peek q (advance t) k = peek q t (k + 1) := by
  simp only [peek, advance_pos, Nat.add_assoc, Nat.add_comm 1 k]

/-- Settles O1: the three clauses on `Peek` are its three cases, each excluded by the hypotheses of the other two. -/
theorem peekAndReadWithinLimits : Obligations.PeekAndReadWithinLimits := by
  unfold Obligations.PeekAndReadWithinLimits
  intro q t
  refine ⟨fun k => ?_, fun f hpeek => readByte_error.mpr hpeek, fun v hpeek => readByte_ok.mpr ⟨hpeek, rfl⟩⟩
  have hmax : maxLen = 15 := rfl
  rcases peek_cases q t k with ⟨hlim, hpeek⟩ | ⟨hlim, hread, hpeek⟩ | ⟨v, hlim, hread, hpeek⟩
  · exact ⟨fun _ => hpeek, fun h => by omega, fun h => by omega⟩
  · refine ⟨fun h => by omega, fun _ _ => hpeek, fun _ hlen => ?_⟩
    obtain ⟨v, hv⟩ := exists_read_of_lt_len hlen
    cases hread.symm.trans hv
  · have hlen := lt_len_of_read hread
    exact ⟨fun h => by omega, fun _ h => by omega, fun _ _ => ⟨v, hread, hpeek⟩⟩

/-! ## `n` bytes -/

/-- The first of `n + 1` reads, when it succeeds, puts its byte in front of what the others give from one byte on (R154). -/
theorem readBytes_succ_of_peek {q : Source} {t : Txn} {v : Byte} (h : peek q t 0 = .ok v) (n : Nat) :
    readBytes q (n + 1) t = (readBytes q n (advance t)).map (Prod.map (v :: ·) id) := by
  simp only [readBytes, readByte_ok.mpr ⟨h, rfl⟩]
  cases readBytes q n (advance t) <;> rfl

/-- Reads succeed when every byte they come to can be peeked (R154). -/
theorem exists_readBytes_of_peeks {q : Source} {n : Nat} {t : Txn} (h : ∀ j, j < n → ∃ v, peek q t j = .ok v) :
    ∃ bs t', readBytes q n t = .ok (bs, t') := by
  induction n generalizing t with
  | zero => exact ⟨[], t, rfl⟩
  | succ n ih =>
    obtain ⟨v, hv⟩ := h 0 n.succ_pos
    obtain ⟨bs, t', hrest⟩ := ih (t := advance t) fun j hj => by
      rw [peek_advance]
      exact h (j + 1) (Nat.succ_lt_succ hj)
    exact ⟨v :: bs, t', by rw [readBytes_succ_of_peek hv, hrest]; rfl⟩

/-- The first read that fails gives the whole read its failure (R154). -/
theorem readBytes_of_peek_error {q : Source} {n i : Nat} {t : Txn} {f : FailureKind} (hi : i < n)
    (hbefore : ∀ j, j < i → ∃ v, peek q t j = .ok v) (hfail : peek q t i = .error f) :
    readBytes q n t = .error f := by
  induction n generalizing i t with
  | zero => exact absurd hi i.not_lt_zero
  | succ n ih =>
    cases i with
    | zero => simp only [readBytes, readByte_error.mpr hfail]
    | succ i =>
      obtain ⟨v, hv⟩ := hbefore 0 i.succ_pos
      have hrest : readBytes q n (advance t) = .error f :=
        ih (Nat.lt_of_succ_lt_succ hi)
          (fun j hj => by rw [peek_advance]; exact hbefore (j + 1) (Nat.succ_lt_succ hj))
          (by rw [peek_advance]; exact hfail)
      rw [readBytes_succ_of_peek hv, hrest]
      rfl

/-- The bytes read are those that stand in the buffer from `POS` on (R154). -/
theorem holdsBytes_of_readBytes {q : Source} {n : Nat} {t t' : Txn} {bs : List Byte}
    (h : readBytes q n t = .ok (bs, t')) : HoldsBytes q.buf t.pos bs := by
  induction n generalizing t t' bs with
  | zero => cases h; exact fun k hk => absurd hk k.not_lt_zero
  | succ n ih =>
    cases hpeek : peek q t 0 with
    | error f => rw [readBytes_of_peek_error n.succ_pos (by simp) hpeek] at h; cases h
    | ok v =>
      rw [readBytes_succ_of_peek hpeek] at h
      cases hrest : readBytes q n (advance t) with
      | error f => rw [hrest] at h; cases h
      | ok r =>
        rw [hrest] at h
        cases h
        intro k hk
        cases k with
        | zero => exact (peek_ok.mp hpeek).2
        | succ k =>
          have hread := ih hrest k (Nat.lt_of_succ_lt_succ hk)
          rwa [advance_pos, Nat.add_assoc, Nat.add_comm 1 k] at hread

/-- The little-endian value as a sum: byte `i` counts `256 ^ i` (R61, R154). -/
theorem leNat_eq_sum (bs : List Byte) :
    leNat bs = ((List.range bs.length).map fun i => (bs[i]?.getD 0).toNat * 256 ^ i).sum := by
  induction bs with
  | nil => rfl
  | cons v vs ih =>
    rw [leNat, ih, List.length_cons, List.range_succ_eq_map, List.map_cons, List.sum_cons, List.map_map,
      ← List.sum_map_mul_left]
    simp [Function.comp_def, pow_succ', Nat.mul_left_comm]

/-- Bytes that stand in the buffer have the sum over the buffer as their little-endian value. -/
theorem leNat_of_holdsBytes {b : Memory} {a : Nat} {bs : List Byte} (h : HoldsBytes b a bs) :
    leNat bs = ((List.range bs.length).map fun i => ((b.read (a + i)).getD 0).toNat * 256 ^ i).sum := by
  rw [leNat_eq_sum]
  refine congrArg List.sum (List.map_congr_left fun i hi => ?_)
  rw [h i (List.mem_range.mp hi)]

/-- Settles O2: what was read stands in the buffer, and the two clauses on the outcome are inductions on the number of
reads, each read after the first being the one before it from one byte on. -/
theorem readLeIsLittleEndian : Obligations.ReadLeIsLittleEndian := by
  unfold Obligations.ReadLeIsLittleEndian
  refine fun q t n => ⟨fun bs t1 h => ?_, exists_readBytes_of_peeks, fun i f hi => readBytes_of_peek_error hi⟩
  have hholds := holdsBytes_of_readBytes h
  obtain ⟨rfl, rfl⟩ := readBytes_ok h
  refine ⟨rfl, fun i hi => ?_, leNat_of_holdsBytes hholds⟩
  rw [hholds i hi, List.getElem?_eq_getElem hi]
  rfl

end Sys2Proof.Proofs
end

section
/-! PROOFS. The prefix scanner (spec R94, R160 to R173, R311, R312): what a run of prefix bytes leaves in `PS`, the escape
test, the fields of a payload, and the tests that follow it. -/

namespace Sys2Proof.Proofs

open Sys2Proof.Machine Sys2Proof.Laws

/-! ## The scan loop -/

/-- The override bytes with their segment registers (R94). -/
def segPrefixes : List (Byte × SegReg) :=
  [(0x26, .ES), (0x2E, .CS), (0x36, .SS), (0x3E, .DS), (0x64, .FS), (0x65, .GS)]

/-- The bytes of the rep class (R94). -/
def repPrefixes : List (Byte × Rep) := [(0xF3, .F3), (0xF2, .F2)]

/-- `PS` with the class of a prefix byte set to that byte's member (R94, R161). -/
def setClass (v : Byte) (ps : PrefixState) : PrefixState :=
  { ps with has66 := v == 0x66 || ps.has66, has67 := v == 0x67 || ps.has67, lock := v == 0xF0 || ps.lock,
            seg := (segPrefixes.lookup v).or ps.seg, rep := (repPrefixes.lookup v).or ps.rep }

theorem legacyPrefix_of_mem {v : Byte} (h : v ∈ legacyPrefixBytes) (ps : PrefixState) :
    legacyPrefix v ps = some (setClass v ps) := by
  simp only [legacyPrefixBytes, List.mem_cons, List.not_mem_nil, or_false] at h
  rcases h with rfl | rfl | rfl | rfl | rfl | rfl | rfl | rfl | rfl | rfl | rfl <;> rfl

/-- A byte that is no legacy prefix is no member of a class. -/
theorem legacyPrefix_of_not_mem {v : Byte} (h : v ∉ legacyPrefixBytes) (ps : PrefixState) :
    legacyPrefix v ps = none ∧ setClass v ps = ps := by
  simp only [legacyPrefixBytes, List.mem_cons, List.not_mem_nil, or_false, not_or] at h
  constructor
  · simp only [legacyPrefix, h, if_false]
  · simp only [setClass, segPrefixes, repPrefixes, List.lookup, beq_false_of_ne, ne_eq, h, not_false_eq_true,
      Bool.false_or, Option.none_or]

/-- The high four bits of a REX byte (R96). -/
theorem isRexByte_iff {v : Byte} : isRexByte v = true ↔ v.toNat / 16 = 4 := by
  have hv := v.isLt
  rw [isRexByte, beq_iff_eq, ← BitVec.toNat_inj, BitVec.extractLsb'_toNat, Nat.shiftRight_eq_div_pow,
    Nat.mod_eq_of_lt (by omega)]
  rfl

/-- The byte is one that the scan loop consumes in this mode (R160, R162). -/
def Scannable (b : Bitness) (v : Byte) : Prop := v ∈ legacyPrefixBytes ∨ b = .b64 ∧ v.toNat / 16 = 4

theorem scanByte_of_mem {v : Byte} (h : v ∈ legacyPrefixBytes) (b : Bitness) (ps : PrefixState) :
    scanByte b v ps = some (clearRex (setClass v ps)) := by
  simp only [scanByte, legacyPrefix_of_mem h]

theorem scanByte_of_not_mem {v : Byte} (h : v ∉ legacyPrefixBytes) (b : Bitness) (ps : PrefixState) :
    scanByte b v ps = if b = .b64 ∧ v.toNat / 16 = 4 then some (setRex v (setClass v ps)) else none := by
  obtain ⟨hnone, hclass⟩ := legacyPrefix_of_not_mem h ps
  simp only [scanByte, hnone, hclass, isRexByte_iff]

/-- What the loop makes of a byte that it consumes: the byte's class set, and the REX fields set or cleared (R160 to R162). -/
theorem scanByte_some {b : Bitness} {v : Byte} {ps ps' : PrefixState} (h : scanByte b v ps = some ps') :
    ps' = clearRex (setClass v ps) ∨ b = .b64 ∧ ps' = setRex v (setClass v ps) := by
  by_cases hv : v ∈ legacyPrefixBytes
  · rw [scanByte_of_mem hv] at h
    cases h
    exact .inl rfl
  · rw [scanByte_of_not_mem hv] at h
    split at h
    · rename_i h64
      cases h
      exact .inr ⟨h64.1, rfl⟩
    · cases h

/-- The loop consumes exactly the scannable bytes, whatever `PS` holds. -/
theorem scanByte_isSome {b : Bitness} {v : Byte} {ps : PrefixState} : (scanByte b v ps).isSome = true ↔ Scannable b v := by
  unfold Scannable
  by_cases hv : v ∈ legacyPrefixBytes
  · simp [scanByte_of_mem hv, hv]
  · simp [scanByte_of_not_mem hv, hv]

/-- What a run of bytes that the loop consumes makes of the classes and of the count (R161, R163). -/
structure Classified (ps ps' : PrefixState) (vs : List Byte) : Prop where
  seg : ps'.seg = (vs.reverse.findSome? fun u => segPrefixes.lookup u).or ps.seg
  rep : ps'.rep = (vs.reverse.findSome? fun u => repPrefixes.lookup u).or ps.rep
  has66 : ps'.has66 = (ps.has66 || vs.contains 0x66)
  has67 : ps'.has67 = (ps.has67 || vs.contains 0x67)
  lock : ps'.lock = (ps.lock || vs.contains 0xF0)
  count : ps'.prefixCount = ps.prefixCount + vs.length

theorem classified_nil (ps : PrefixState) : Classified ps ps [] := by
  constructor <;> simp

theorem Classified.append {ps ps1 ps2 : PrefixState} {us vs : List Byte} (h : Classified ps ps1 us)
    (h' : Classified ps1 ps2 vs) : Classified ps ps2 (us ++ vs) where
  seg := by rw [h'.seg, h.seg, List.reverse_append, List.findSome?_append, Option.or_assoc]
  rep := by rw [h'.rep, h.rep, List.reverse_append, List.findSome?_append, Option.or_assoc]
  has66 := by rw [h'.has66, h.has66, List.contains_append, Bool.or_assoc]
  has67 := by rw [h'.has67, h.has67, List.contains_append, Bool.or_assoc]
  lock := by rw [h'.lock, h.lock, List.contains_append, Bool.or_assoc]
  count := by rw [h'.count, h.count, List.length_append, Nat.add_assoc]

theorem classified_setClass (v : Byte) (ps : PrefixState) : Classified ps (countPrefix (setClass v ps)) [v] := by
  have hcontains (u : Byte) : [v].contains u = (v == u) := by
    rw [List.contains_cons, List.contains_nil, Bool.or_false, BEq.comm]
  have hlookup {α : Type} (f : Byte → Option α) : [v].reverse.findSome? f = f v := by cases h : f v <;> simp [h]
  constructor <;> simp only [countPrefix, setClass, hcontains, hlookup, Bool.or_comm, List.length_singleton]

/-- One byte sets its own class; the REX fields are in no class. -/
theorem classified_of_scanByte {b : Bitness} {v : Byte} {ps ps' : PrefixState} (h : scanByte b v ps = some ps') :
    Classified ps (countPrefix ps') [v] := by
  obtain ⟨hseg, hrep, h66, h67, hlock, hcount⟩ := classified_setClass v ps
  rcases scanByte_some h with rfl | ⟨-, rfl⟩
  · exact ⟨hseg, hrep, h66, h67, hlock, hcount⟩
  · exact ⟨hseg, hrep, h66, h67, hlock, hcount⟩

/-- The loop consumes a run of scannable bytes that leaves room for one more, and stops at a byte that is not one. -/
theorem scanPrefixes_of_run {q : Source} {fuel : Nat} {t : Txn} {vs : List Byte} {v : Byte}
    (hlim : t.pos + vs.length < q.start + maxLen) (hfuel : vs.length < fuel)
    (hread : HoldsBytes q.buf t.pos (vs ++ [v])) (hvs : ∀ u ∈ vs, Scannable q.bitness u)
    (hv : ¬Scannable q.bitness v) :
    ∃ ps, scanPrefixes q fuel t = .ok { t with pos := t.pos + vs.length, ps := ps } ∧ Classified t.ps ps vs := by
  induction vs generalizing t fuel with
  | nil =>
    obtain ⟨fuel, rfl⟩ : ∃ n, fuel = n + 1 := ⟨fuel - 1, by omega⟩
    have hpeek : peek q t 0 = .ok v := peek_ok.mpr ⟨hlim, hread 0 Nat.one_pos⟩
    have hstop : scanByte q.bitness v t.ps = none := by
      rwa [← Option.not_isSome_iff_eq_none, scanByte_isSome]
    refine ⟨t.ps, ?_, classified_nil _⟩
    simp only [scanPrefixes, hpeek, hstop]
    rfl
  | cons u us ih =>
    rw [List.length_cons] at hlim hfuel
    obtain ⟨fuel, rfl⟩ : ∃ n, fuel = n + 1 := ⟨fuel - 1, by omega⟩
    have hpeek : peek q t 0 = .ok u := peek_ok.mpr ⟨by omega, hread 0 (Nat.succ_pos _)⟩
    obtain ⟨ps1, hbyte⟩ : ∃ ps1, scanByte q.bitness u t.ps = some ps1 :=
      Option.isSome_iff_exists.mp (scanByte_isSome.mpr (hvs u List.mem_cons_self))
    obtain ⟨ps2, hrest, hclass⟩ := ih (t := { advance t with ps := countPrefix ps1 }) (fuel := fuel)
      (by simp only [advance_pos]; omega) (by omega)
      (fun k hk => by
        rw [advance_pos, Nat.add_assoc, Nat.add_comm 1 k]
        exact hread (k + 1) (Nat.succ_lt_succ hk))
      (fun w hw => hvs w (List.mem_cons_of_mem u hw))
    refine ⟨ps2, ?_, (classified_of_scanByte hbyte).append hclass⟩
    have hpos : (advance t).pos + us.length = t.pos + (u :: us).length := Nat.add_right_comm ..
    rw [← hpos]
    simp only [scanPrefixes, hpeek, hbyte]
    exact hrest

/-- Settles O3: the run is consumed to its end, and each byte sets its own class over what stood there before it. -/
theorem scanKeepsLastOfEachClass : Obligations.ScanKeepsLastOfEachClass := by
  unfold Obligations.ScanKeepsLastOfEachClass
  intro q t vs v legacy segs reps scanned hpos hlen hread hvs hv
  have hlim : t.pos + vs.length < q.start + maxLen := by
    rw [hpos]; exact Nat.add_lt_add_left hlen q.start
  obtain ⟨ps, hscan, hclass⟩ := scanPrefixes_of_run hlim (Nat.lt_succ_of_lt hlen) hread hvs hv
  exact ⟨_, hscan, rfl, hclass.count, hclass.seg, hclass.rep, hclass.has66, hclass.has67, hclass.lock⟩

/-! ## The escape test -/

/-- The two top bits of a byte are set (R165). -/
theorem top_bits_set_iff (v : Byte) : v.extractLsb' 6 2 = 3#2 ↔ v &&& 0xC0 = 0xC0 := by
  revert v
  decide

theorem escapeOf_eq_none_iff {v : Byte} : escapeOf v = none ↔ v ≠ 0xC4 ∧ v ≠ 0xC5 ∧ v ≠ 0x62 := by
  unfold escapeOf
  split_ifs <;> simp_all

theorem escapeOf_eq_some {v : Byte} (h : v = 0xC4 ∨ v = 0xC5 ∨ v = 0x62) :
    escapeOf v = some (if v = 0xC5 then Escape.vex2 else if v = 0xC4 then .vex3 else .evex) := by
  rcases h with rfl | rfl | rfl <;> rfl

section
variable {q : Source} {t : Txn} {v : Byte} {e : Escape}

theorem escapeTest_of_peek_error {f : FailureKind} (h : peek q t 0 = .error f) : escapeTest q t = .error f := by
  simp only [escapeTest, h]

theorem escapeTest_of_no_escape_byte (h : peek q t 0 = .ok v) (hv : escapeOf v = none) :
    escapeTest q t = .ok none := by
  simp only [escapeTest, h, hv]

theorem escapeTest_in64 (h : peek q t 0 = .ok v) (hv : escapeOf v = some e) (h64 : q.bitness = .b64) :
    escapeTest q t = .ok (some e) := by
  simp only [escapeTest, h, hv, h64, if_true]

/-- Outside 64-bit mode the byte after an escape byte decides (R104, R165, R319). -/
theorem escapeTest_outside64 (h : peek q t 0 = .ok v) (hv : escapeOf v = some e) (h64 : q.bitness ≠ .b64) :
    escapeTest q t = (peek q t 1).map fun v1 => if v1 &&& 0xC0 = 0xC0 then some e else none := by
  simp only [escapeTest, h, hv, h64, if_false, top_bits_set_iff]
  cases peek q t 1 <;> rfl

/-- An escape outside 64-bit mode has a payload whose first byte has its two top bits set. -/
theorem payload_top_bits_of_escapeTest (h : escapeTest q t = .ok (some e)) (h64 : q.bitness ≠ .b64) :
    ∃ v1, q.buf.read (t.pos + 1) = some v1 ∧ v1 &&& 0xC0 = 0xC0 := by
  cases hpeek : peek q t 0 with
  | error f => rw [escapeTest_of_peek_error hpeek] at h; cases h
  | ok v =>
    cases hv : escapeOf v with
    | none => rw [escapeTest_of_no_escape_byte hpeek hv] at h; cases h
    | some e' =>
      rw [escapeTest_outside64 hpeek hv h64] at h
      cases hpeek1 : peek q t 1 with
      | error f => rw [hpeek1] at h; cases h
      | ok v1 =>
        rw [hpeek1] at h
        refine ⟨v1, (peek_ok.mp hpeek1).2, ?_⟩
        by_contra hbits
        have hnone : none = some e := (if_neg hbits).symm.trans (Except.ok.inj h)
        cases hnone

/-- In 64-bit mode a byte at which the escape test finds no escape is no escape byte. -/
theorem escapeOf_eq_none_of_escapeTest (h : escapeTest q t = .ok none) (h64 : q.bitness = .b64)
    (hpeek : peek q t 0 = .ok v) : escapeOf v = none := by
  by_contra hv
  obtain ⟨e, hv⟩ := Option.ne_none_iff_exists'.mp hv
  rw [escapeTest_in64 hpeek hv h64] at h
  cases h

end

/-! ## The stage -/

section
variable {q : Source} {t t1 : Txn}

theorem prefixStage_of_scan_error {k : FailureKind} (h : scanPrefixes q (maxLen + 1) t = .error k) :
    prefixStage q t = .error k := by
  simp only [prefixStage, h]

theorem prefixStage_of_escapeTest_error {k : FailureKind} (h : scanPrefixes q (maxLen + 1) t = .ok t1)
    (htest : escapeTest q t1 = .error k) : prefixStage q t = .error k := by
  simp only [prefixStage, h, htest]

theorem prefixStage_of_no_escape (h : scanPrefixes q (maxLen + 1) t = .ok t1) (htest : escapeTest q t1 = .ok none) :
    prefixStage q t = .ok { t1 with ps := { t1.ps with mp := legacyMp t1.ps.rep t1.ps.has66 } } := by
  simp only [prefixStage, h, htest]

theorem prefixStage_of_escape {e : Escape} (h : scanPrefixes q (maxLen + 1) t = .ok t1)
    (htest : escapeTest q t1 = .ok (some e)) : prefixStage q t = escapeStage q e t1 := by
  simp only [prefixStage, h, htest]

end

/-- Settles O5: the escape test by the byte, the mode and the byte after it; without an escape only `mp` is set. -/
theorem escapeTestByModeAndNextByte : Obligations.EscapeTestByModeAndNextByte := by
  unfold Obligations.EscapeTestByModeAndNextByte
  refine ⟨fun q t => ⟨fun f => escapeTest_of_peek_error, fun v hpeek => ⟨fun hv => ?_, fun hv => ?_⟩⟩,
    fun q t t1 hscan htest => ⟨_, prefixStage_of_no_escape hscan htest, rfl, rfl⟩⟩
  · exact escapeTest_of_no_escape_byte hpeek (escapeOf_eq_none_iff.mpr hv)
  · have hesc := escapeOf_eq_some hv
    refine ⟨_, rfl, escapeTest_in64 hpeek hesc, fun h64 v1 hpeek1 => ?_, fun h64 f hpeek1 => ?_⟩
    · rw [escapeTest_outside64 hpeek hesc h64, hpeek1]; rfl
    · rw [escapeTest_outside64 hpeek hesc h64, hpeek1]; rfl

/-! ## The fields of a payload -/

/-- A field of a byte in integers (R97 to R101). -/
theorem extractLsb'_byte_toNat (v : Byte) (lo n : Nat) :
    (v.extractLsb' lo n).toNat = v.toNat / 2 ^ lo % 2 ^ n := by
  rw [BitVec.extractLsb'_toNat, Nat.shiftRight_eq_div_pow]

theorem extractLsb'_byte_eq (v : Byte) (lo n : Nat) :
    v.extractLsb' lo n = BitVec.ofNat n (v.toNat / 2 ^ lo % 2 ^ n) := by
  apply BitVec.eq_of_toNat_eq
  rw [extractLsb'_byte_toNat, BitVec.toNat_ofNat, Nat.mod_mod]

/-- The true value of an inverted `vvvv` field (R102). -/
theorem not_vvvv_eq {p : Byte} {v : BitVec 4} (h : v.toNat = 15 - p.toNat / 8 % 16) : ~~~(p.extractLsb' 3 4) = v := by
  apply BitVec.eq_of_toNat_eq
  rw [BitVec.toNat_not, extractLsb'_byte_toNat, h]
  rfl

/-- The `L` bit of a VEX payload as a field of two bits (R26, R97). -/
theorem vexL_eq (p : Byte) : (p.extractLsb' 2 1).setWidth 2 = BitVec.ofNat 2 (p.toNat / 4 % 2) := by
  apply BitVec.eq_of_toNat_eq
  rw [BitVec.toNat_setWidth, extractLsb'_byte_toNat, BitVec.toNat_ofNat]
  rfl

theorem low_field_eq (p : Byte) (n : Nat) : p.extractLsb' 0 n = BitVec.ofNat n (p.toNat % 2 ^ n) := by
  rw [extractLsb'_byte_eq, pow_zero, Nat.div_one]

/-- The `mmmmm` field of a VEX payload (R98). -/
theorem vexMap_toNat (p : Byte) : (p.extractLsb' 0 5).toNat = p.toNat % 32 := by
  rw [extractLsb'_byte_toNat, pow_zero, Nat.div_one]
  rfl

/-- The `mm` field of an EVEX payload (R99). -/
theorem evexMap_toNat (p : Byte) : (p.extractLsb' 0 2).toNat = p.toNat % 4 := by
  rw [extractLsb'_byte_toNat, pow_zero, Nat.div_one]
  rfl

/-- The reserved bits `p0[3:2]` of an EVEX payload (R99, R168). -/
theorem evexReserved_iff (p : Byte) : p.extractLsb' 2 2 = 0#2 ↔ p.toNat / 4 % 4 = 0 := by
  rw [← BitVec.toNat_inj, extractLsb'_byte_toNat]
  rfl

/-- The maps that a payload can select (R103, R118). -/
theorem mapOf_of_mem {n : Nat} {map : OpMap} (h : (n, map) ∈ [(1, OpMap.m0F), (2, .m0F38), (3, .m0F3A)]) :
    mapOf n = some map := by
  simp only [List.mem_cons, Prod.mk.injEq, List.not_mem_nil, or_false] at h
  rcases h with ⟨rfl, rfl⟩ | ⟨rfl, rfl⟩ | ⟨rfl, rfl⟩ <;> rfl

theorem mapOf_eq_none {n : Nat} (h : n = 0 ∨ 3 < n) : mapOf n = none := by
  have h1 : n ≠ 1 := by omega
  have h2 : n ≠ 2 := by omega
  have h3 : n ≠ 3 := by omega
  simp only [mapOf, h1, h2, h3, if_false]

/-! ## Reading an escape -/

section
variable {q : Source} {t : Txn} {e p0 p1 p2 : Byte}

/-- The number of bytes of an escape with its payload (R166 to R168). -/
def escapeLength : Escape → Nat
  | .vex2 => 2
  | .vex3 => 3
  | .evex => 4

/-- All bytes of the form are read before any test, so a read that fails is the failure of the escape (R169). -/
theorem readEscape_of_readBytes_error {form : Escape} {f : FailureKind}
    (h : readBytes q (escapeLength form) t = .error f) : readEscape q form t = .error f := by
  cases form <;> simp only [escapeLength] at h <;> simp only [readEscape, h]

theorem readEscape_vex2 (hlim : t.pos + 2 ≤ q.start + maxLen) (h : HoldsBytes q.buf t.pos [e, p0]) :
    readEscape q .vex2 t = .ok { t with pos := t.pos + 2, ps := vex2Payload p0 t.ps } := by
  have hread : readBytes q 2 t = .ok ([e, p0], { t with pos := t.pos + 2 }) := readBytes_of_holdsBytes hlim h
  simp only [readEscape, hread]

section
variable (hlim : t.pos + 3 ≤ q.start + maxLen) (h : HoldsBytes q.buf t.pos [e, p0, p1])
include hlim h

theorem readBytes_vex3 : readBytes q 3 t = .ok ([e, p0, p1], { t with pos := t.pos + 3 }) :=
  readBytes_of_holdsBytes hlim h

theorem readEscape_vex3_reserved (hmap : mapOf (p0.toNat % 32) = none) :
    readEscape q .vex3 t = .error .InvalidOpcode := by
  rw [← vexMap_toNat] at hmap
  simp only [readEscape, readBytes_vex3 hlim h, hmap]

theorem readEscape_vex3 {map : OpMap} (hmap : mapOf (p0.toNat % 32) = some map) :
    readEscape q .vex3 t = .ok { t with pos := t.pos + 3, ps := vex3Payload p0 p1 map t.ps } := by
  rw [← vexMap_toNat] at hmap
  simp only [readEscape, readBytes_vex3 hlim h, hmap]

end

section
variable (hlim : t.pos + 4 ≤ q.start + maxLen) (h : HoldsBytes q.buf t.pos [e, p0, p1, p2])
include hlim h

theorem readBytes_evex : readBytes q 4 t = .ok ([e, p0, p1, p2], { t with pos := t.pos + 4 }) :=
  readBytes_of_holdsBytes hlim h

/-- Each of the three tests of R168 fails the payload by itself. -/
theorem readEscape_evex_reserved (hres : p0.toNat / 4 % 4 ≠ 0 ∨ p0.toNat % 4 = 0 ∨ p1.getLsbD 2 = false) :
    readEscape q .evex t = .error .InvalidOpcode := by
  simp only [readEscape, readBytes_evex hlim h, evexReserved_iff, evexMap_toNat]
  split
  · rename_i hzero
    rcases hres with hne | hmap | hone
    · exact absurd hzero hne
    · rw [mapOf_eq_none (.inl hmap)]
    · cases mapOf (p0.toNat % 4) with
      | none => rfl
      | some map => exact if_neg (Bool.eq_false_iff.mp hone)
  · rfl

theorem readEscape_evex {map : OpMap} (hzero : p0.toNat / 4 % 4 = 0) (hmap : mapOf (p0.toNat % 4) = some map)
    (hone : p1.getLsbD 2 = true) :
    readEscape q .evex t = .ok { t with pos := t.pos + 4, ps := evexPayload p0 p1 p2 map t.ps } := by
  simp only [readEscape, readBytes_evex hlim h, evexReserved_iff, hzero, if_true, evexMap_toNat, hmap, hone]

end

end

/-- Settles O6: the reads come before the tests, and each field of a payload is its bits read as an integer. -/
theorem vexAndEvexPayloadFields : Obligations.VexAndEvexPayloadFields := by
  unfold Obligations.VexAndEvexPayloadFields
  refine ⟨fun q t form n i f hform hi hbefore hfail => ?_, fun q t e p0 p1 p2 v => ⟨fun hv hlim hread => ?_,
    fun hlim hread => ⟨fun hres => ?_, fun map hmap hv => ?_⟩,
    fun hlim hread => ⟨readEscape_evex_reserved hlim hread, fun map hmap hone hv => ?_⟩⟩⟩
  · have hn : n = escapeLength form := by
      simp only [List.mem_cons, Prod.mk.injEq, List.not_mem_nil, or_false] at hform
      rcases hform with ⟨rfl, rfl⟩ | ⟨rfl, rfl⟩ | ⟨rfl, rfl⟩ <;> rfl
    exact readEscape_of_readBytes_error (readBytes_of_peek_error (hn ▸ hi) hbefore hfail)
  · rw [readEscape_vex2 hlim hread, vex2Payload, not_vvvv_eq hv, vexL_eq, low_field_eq]
    rfl
  · exact readEscape_vex3_reserved hlim hread (mapOf_eq_none hres)
  · rw [readEscape_vex3 hlim hread (mapOf_of_mem hmap), vex3Payload, not_vvvv_eq hv, vexL_eq, low_field_eq]
    rfl
  · obtain ⟨hzero, hlow⟩ : p0.toNat / 4 % 4 = 0 ∧ p0.toNat % 4 = p0.toNat % 16 := by
      simp only [List.mem_cons, Prod.mk.injEq, List.not_mem_nil, or_false] at hmap
      omega
    rw [readEscape_evex hlim hread hzero (hlow ▸ mapOf_of_mem hmap) hone, evexPayload, not_vvvv_eq hv, low_field_eq,
      low_field_eq, extractLsb'_byte_eq]
    rfl

/-! ## Prefixes and extension bits that an escape forbids -/

/-- Some of 66h, F2h, F3h and an effective REX stands before the escape (R170). -/
def ForbiddenBeforeEscape (ps : PrefixState) : Prop := ps.has66 = true ∨ ps.rep ≠ none ∨ ps.rexPresent = true

theorem forbiddenBeforeEscape_iff {ps : PrefixState} :
    (ps.has66 || ps.rep.isSome || ps.rexPresent) = true ↔ ForbiddenBeforeEscape ps := by
  simp [ForbiddenBeforeEscape, Option.isSome_iff_ne_none, or_assoc]

theorem legacyBeforeEscape_fail {q : Source} {ps0 : PrefixState} (h : ForbiddenBeforeEscape ps0)
    (hq : q.params.legacyBeforeEscape = .fail) (ps : PrefixState) :
    legacyBeforeEscape q ps0 ps = .error .InvalidOpcode := by
  simp only [legacyBeforeEscape, forbiddenBeforeEscape_iff.mpr h, if_true, hq]

theorem legacyBeforeEscape_drop {q : Source} {ps0 : PrefixState}
    (h : ¬ForbiddenBeforeEscape ps0 ∨ q.params.legacyBeforeEscape = .ppWins) (ps : PrefixState) :
    legacyBeforeEscape q ps0 ps = .ok { ps with has66 := false, rep := none, rexPresent := false } := by
  unfold legacyBeforeEscape
  by_cases hf : ForbiddenBeforeEscape ps0
  · simp only [forbiddenBeforeEscape_iff.mpr hf, if_true, h.resolve_left (not_not_intro hf)]
  · exact if_neg (mt forbiddenBeforeEscape_iff.mp hf)

/-- Some of the four extension bits is asserted (R171). -/
def ExtensionAsserted (ps : PrefixState) : Prop :=
  ps.b = true ∨ ps.rp = true ∨ ps.vp = true ∨ 8 ≤ ps.vvvv.toNat

theorem getLsbD_three_iff (v : BitVec 4) : v.getLsbD 3 = true ↔ 8 ≤ v.toNat := by
  revert v
  decide

theorem extensionAsserted_iff {ps : PrefixState} :
    (ps.b || ps.rp || ps.vp || ps.vvvv.getLsbD 3) = true ↔ ExtensionAsserted ps := by
  simp only [Bool.or_eq_true, getLsbD_three_iff, or_assoc, ExtensionAsserted]

/-- `PS` with the four extension bits cleared (R171). -/
def clearExtension (ps : PrefixState) : PrefixState :=
  { ps with b := false, rp := false, vp := false, vvvv := ps.vvvv &&& 7 }

theorem and_seven_toNat (v : BitVec 4) : (v &&& 7).toNat = v.toNat % 8 := by
  rw [BitVec.toNat_and]
  exact Nat.and_two_pow_sub_one_eq_mod v.toNat 3

theorem not_extensionAsserted_clearExtension (ps : PrefixState) : ¬ExtensionAsserted (clearExtension ps) := by
  have hlt := Nat.mod_lt ps.vvvv.toNat (Nat.succ_pos 7)
  simp only [ExtensionAsserted, clearExtension, and_seven_toNat, Bool.false_eq_true, false_or]
  omega

section
variable {q : Source} {ps : PrefixState}

theorem extensionBits_fail (h64 : q.bitness ≠ .b64) (h : ExtensionAsserted ps) (hq : q.params.extBitsNon64 = .fail) :
    extensionBits q ps = .error .InvalidModeForInstruction := by
  rw [extensionBits, if_pos ⟨h64, extensionAsserted_iff.mpr h⟩]
  simp only [hq]

theorem extensionBits_ignore (h64 : q.bitness ≠ .b64) (h : ExtensionAsserted ps)
    (hq : q.params.extBitsNon64 = .ignore) : extensionBits q ps = .ok (clearExtension ps) := by
  rw [extensionBits, if_pos ⟨h64, extensionAsserted_iff.mpr h⟩]
  simp only [hq]
  rfl

theorem extensionBits_keep (h : q.bitness = .b64 ∨ ¬ExtensionAsserted ps) : extensionBits q ps = .ok ps :=
  if_neg fun ⟨h64, hbits⟩ => h.elim h64 fun hnot => hnot (extensionAsserted_iff.mp hbits)

end

/-! ## The escape stage -/

section
variable {q : Source} {e : Escape} {t t1 : Txn} {k : FailureKind}

theorem escapeStage_of_readEscape_error (h : readEscape q e t = .error k) : escapeStage q e t = .error k := by
  simp only [escapeStage, h]

theorem escapeStage_of_legacyBeforeEscape_error (h : readEscape q e t = .ok t1)
    (h2 : legacyBeforeEscape q t.ps t1.ps = .error k) : escapeStage q e t = .error k := by
  simp only [escapeStage, h, h2]

theorem escapeStage_of_extensionBits_error {ps2 : PrefixState} (h : readEscape q e t = .ok t1)
    (h2 : legacyBeforeEscape q t.ps t1.ps = .ok ps2) (h3 : extensionBits q ps2 = .error k) :
    escapeStage q e t = .error k := by
  simp only [escapeStage, h, h2, h3]

theorem escapeStage_of_ok {ps2 ps3 : PrefixState} (h : readEscape q e t = .ok t1)
    (h2 : legacyBeforeEscape q t.ps t1.ps = .ok ps2) (h3 : extensionBits q ps2 = .ok ps3) :
    escapeStage q e t = .ok { t1 with ps := { ps3 with mp := ppMp ps3.pp } } := by
  simp only [escapeStage, h, h2, h3]

end

/-- The mandatory prefix that a `pp` value stands for (R103, R173). -/
theorem ppMp_of_mem {pp : BitVec 2} {mp : MandPfx}
    (h : (pp.toNat, mp) ∈ [(0, MandPfx.NP), (1, .p66), (2, .pF3), (3, .pF2)]) : ppMp pp = mp := by
  have hpp {n : Nat} (hn : pp.toNat = n) : pp = BitVec.ofNat 2 n := by rw [← hn, BitVec.ofNat_toNat, BitVec.setWidth_eq]
  simp only [List.mem_cons, Prod.mk.injEq, List.not_mem_nil, or_false] at h
  rcases h with ⟨hn, rfl⟩ | ⟨hn, rfl⟩ | ⟨hn, rfl⟩ | ⟨hn, rfl⟩ <;> rw [hpp hn] <;> rfl

/-- Settles O7: each test by its condition and its parameter, then the stages in their order. -/
theorem prefixesAndBitsThatAnEscapeForbids : Obligations.PrefixesAndBitsThatAnEscapeForbids := by
  unfold Obligations.PrefixesAndBitsThatAnEscapeForbids
  refine ⟨fun q ps0 ps => ⟨fun h hq => legacyBeforeEscape_fail h hq ps, fun h => legacyBeforeEscape_drop ?_ ps⟩,
    fun q ps => ⟨fun h64 h => ⟨extensionBits_fail h64 h, fun hq => ?_⟩, fun h => extensionBits_keep ?_⟩,
    fun q e t => ⟨fun k => escapeStage_of_readEscape_error, fun t1 h1 =>
      ⟨fun k => escapeStage_of_legacyBeforeEscape_error h1, fun ps2 h2 =>
        ⟨fun k => escapeStage_of_extensionBits_error h1 h2, fun ps3 mp h3 hmp => ?_⟩⟩⟩,
    fun q t => ⟨fun k => prefixStage_of_scan_error, fun t1 hscan =>
      ⟨fun k => prefixStage_of_escapeTest_error hscan, fun e => prefixStage_of_escape hscan, fun htest => ?_⟩⟩⟩
  · exact h.imp_left fun ⟨h66, hrep, hrex⟩ => by simp [ForbiddenBeforeEscape, h66, hrep, hrex]
  · exact ⟨_, and_seven_toNat ps.vvvv, extensionBits_ignore h64 h hq⟩
  · exact h.imp_right fun ⟨hb, hrp, hvp, hv⟩ => by simp [ExtensionAsserted, hb, hrp, hvp, hv]
  · rw [escapeStage_of_ok h1 h2 h3, ppMp_of_mem hmp]
  · exact prefixStage_of_no_escape hscan htest

/-- Settles O8: the tables of the two sizes and of the mandatory prefix, entry by entry. -/
theorem sizesAndMandatoryPrefixByMode : Obligations.SizesAndMandatoryPrefixByMode := by
  unfold Obligations.SizesAndMandatoryPrefixByMode
  exact ⟨fun w => ⟨rfl, rfl, rfl, rfl⟩, rfl, rfl, fun h => rfl, rfl, rfl, rfl, rfl, rfl, rfl, fun h66 => ⟨rfl, rfl⟩, rfl,
    rfl, rfl, rfl, rfl, rfl⟩

end Sys2Proof.Proofs
end

section
/-! PROOFS. The fields of an instruction built from the parts read (spec R30, R111, R269): nothing read is lost. -/

namespace Sys2Proof.Proofs

open Sys2Proof.Machine Sys2Proof.Laws

/-- A field of as many bits as the bytes have gives the bytes back (R61). -/
theorem leBytes_leBits {w n : Nat} {bs : List Byte} (hw : w = 8 * n) (h : bs.length = n) :
    leBytes n (leBits w bs).toNat = bs := by
  rw [leBits_toNat (by rw [h, hw]), ← h, leBytes_leNat]

theorem moffs_bytes_ofBytes {a : AddrSize} {bs : List Byte} (h : bs.length = a.bytes) :
    (Moffs.ofBytes bs).bytes = bs := by
  cases a with
  | a16 => rw [moffs_ofBytes_two h]; exact leBytes_leBits rfl h
  | a32 => rw [moffs_ofBytes_four h]; exact leBytes_leBits rfl h
  | a64 => rw [moffs_ofBytes_eight h]; exact leBytes_leBits rfl h

/-- The bytes that an instruction with these operand shapes writes for a trailing field read as `bs` (R111). -/
def writtenTrail (ops : List Shape) (bs : List Byte) : List Byte :=
  if ops.contains .moffs then (Moffs.ofBytes bs).bytes
  else leBytes (trailLength .a16 ops) (leBits (8 * trailLength .a16 ops) bs).toNat

/-- Without a direct address the trailing field has the same length under every address size (R267 to R269). -/
theorem trailLength_of_not_moffs {ops : List Shape} (h : Shape.moffs ∉ ops) (a a' : AddrSize) :
    trailLength a ops = trailLength a' ops := by
  refine congrArg List.sum (List.map_congr_left fun s hs => ?_)
  cases s with
  | moffs => exact absurd hs h
  | _ => rfl

/-- Code by code: the rows with a direct address are those of R447 to R454. -/
theorem code_moffs (c : Code) : (!c.row.ops.contains .moffs || decide (c ∈ moffsCodes)) = true := by
  cases c <;> rfl

theorem writtenTrail_eq {c : Code} {a : AddrSize} {bs : List Byte} (h : bs.length = trailLength a c.row.ops) :
    writtenTrail c.row.ops bs = bs := by
  unfold writtenTrail
  split
  · rename_i hmoffs
    have hc : c ∈ moffsCodes := by
      simpa only [hmoffs, Bool.not_true, Bool.false_or, decide_eq_true_eq] using code_moffs c
    exact moffs_bytes_ofBytes (h.trans (trailLength_of_mem_moffsCodes hc a))
  · rename_i hmoffs
    have hnot : Shape.moffs ∉ c.row.ops := by simpa using hmoffs
    exact leBytes_leBits rfl (h.trans (trailLength_of_not_moffs hnot a .a16))

/-- Code by code, the fields of the built instruction are its parts as the row of the code has them. -/
theorem fields_build (f : Parts) (c : Code) : (Instr.build { toParts := f, code := c }).fields =
    { pfx := prefixInSpace f.pfx c.row.space, low := if c.row.opmask = 0xF8 then f.low else 0,
      modrm := if c.row.hasModrm then some f.m else none, trail := writtenTrail c.row.ops f.trail, code := c } := by
  cases c <;> rfl

/-- Parts that have the row's space, ModRM byte and trailing length are the fields of the instruction built from them, but
for a register number that the row does not have. -/
theorem fields_build_of_fits {f : Parts} {c : Code} {a : AddrSize} (hspace : f.pfx.space = c.row.space)
    (hmodrm : f.modrm.isSome = c.row.hasModrm) (htrail : f.trail.length = trailLength a c.row.ops) :
    (Instr.build { toParts := f, code := c }).fields =
      { pfx := f.pfx, low := if c.row.opmask = 0xF8 then f.low else 0, modrm := f.modrm, trail := f.trail, code := c } := by
  have hm : (if c.row.hasModrm then some f.m else none) = f.modrm := by
    rw [← hmodrm, Parts.m]
    cases f.modrm <;> rfl
  rw [fields_build, prefixInSpace_eq_self hspace, hm, writtenTrail_eq htrail]

end Sys2Proof.Proofs
end

section
/-! PROOFS. What the decoder answers passes every check (spec R162, R165 to R173, R191 to R199, R225 to R233): what the
scanner leaves in `PS`, what the dispatcher has tested, and what the last reads leave, each said once for a decode that
succeeds. -/

namespace Sys2Proof.Proofs

open Sys2Proof.Machine Sys2Proof.Laws

/-! ## `PS` after the scan loop -/

/-- What the scan loop leaves: the Legacy space, REX only in 64-bit mode and else its bits 0, and no field of a payload. -/
structure LegacyState (b : Bitness) (ps : PrefixState) : Prop where
  space : ps.space = .legacy
  rex64 : b ≠ .b64 → ps.rexPresent = false
  rexBits : ps.rexPresent = false → ps.w = false ∧ ps.r = false ∧ ps.x = false ∧ ps.b = false
  payload : ps.rp = false ∧ ps.vp = false ∧ ps.bcst = false ∧ ps.vvvv = 0

theorem legacyState_initial (b : Bitness) : LegacyState b PrefixState.initial where
  space := rfl
  rex64 _ := rfl
  rexBits _ := ⟨rfl, rfl, rfl, rfl⟩
  payload := ⟨rfl, rfl, rfl, rfl⟩

theorem legacyState_of_scanByte {b : Bitness} {v : Byte} {ps ps' : PrefixState} (hps : LegacyState b ps)
    (h : scanByte b v ps = some ps') : LegacyState b ps' := by
  rcases scanByte_some h with rfl | ⟨h64, rfl⟩
  · exact ⟨hps.space, fun _ => rfl, fun _ => ⟨rfl, rfl, rfl, rfl⟩, hps.payload⟩
  · refine ⟨hps.space, fun hne => absurd h64 hne, fun hrex => ?_, hps.payload⟩
    cases hrex

/-- The count of prefix bytes and the mandatory prefix are no part of that. -/
theorem LegacyState.with_count_mp {b : Bitness} {ps : PrefixState} (h : LegacyState b ps) (n : Nat) (mp : MandPfx) :
    LegacyState b { ps with prefixCount := n, mp := mp } := ⟨h.space, h.rex64, h.rexBits, h.payload⟩

theorem legacyState_of_scanPrefixes {q : Source} {fuel : Nat} {t t' : Txn} (hps : LegacyState q.bitness t.ps)
    (h : scanPrefixes q fuel t = .ok t') : LegacyState q.bitness t'.ps := by
  induction fuel generalizing t with
  | zero => cases h
  | succ fuel ih =>
    obtain ⟨v, -, ⟨-, rfl⟩ | ⟨ps, hbyte, hrest⟩⟩ := scanPrefixes_ok h
    · exact hps
    · exact ih ((legacyState_of_scanByte hps hbyte).with_count_mp _ _) hrest

/-- The loop ends only on a byte that it does not consume. -/
theorem not_scannable_of_scanPrefixes {q : Source} {fuel : Nat} {t t' : Txn} {v : Byte}
    (h : scanPrefixes q fuel t = .ok t') (hpeek : peek q t' 0 = .ok v) : ¬Scannable q.bitness v := by
  induction fuel generalizing t with
  | zero => cases h
  | succ fuel ih =>
    obtain ⟨w, hw, ⟨hstop, rfl⟩ | ⟨ps, -, hrest⟩⟩ := scanPrefixes_ok h
    · obtain rfl : w = v := Except.ok.inj (hw.symm.trans hpeek)
      rw [← scanByte_isSome (ps := t'.ps), hstop]
      exact Bool.false_ne_true
    · exact ih hrest

/-! ## `PS` after an escape -/

/-- What the escape stage leaves: no Legacy mandatory prefix and no REX, no EVEX field under VEX, no extension bit outside
64-bit mode, and `mp` from `pp` (R170, R171, R173). -/
structure EscapedState (b : Bitness) (ps : PrefixState) : Prop where
  space : ps.space ≠ .legacy
  dropped : ps.has66 = false ∧ ps.rep = none ∧ ps.rexPresent = false
  vex : ps.space = .vex → ps.rp = false ∧ ps.vp = false ∧ ps.bcst = false
  outside64 : b ≠ .b64 → ps.r = false ∧ ps.x = false ∧ ¬ExtensionAsserted ps
  mp : ps.mp = ppMp ps.pp

/-- An escape that is read has set `PS` from a payload in the buffer, in one of the three forms (R166 to R168). -/
theorem readEscape_payload {q : Source} {e : Escape} {t t' : Txn} (h : readEscape q e t = .ok t') :
    ∃ p0, q.buf.read (t.pos + 1) = some p0 ∧ (t'.ps = vex2Payload p0 t.ps ∨
      (∃ p1 map, t'.ps = vex3Payload p0 p1 map t.ps) ∨ ∃ p1 p2 map, t'.ps = evexPayload p0 p1 p2 map t.ps) := by
  unfold readEscape at h
  split at h
  · split at h
    · rename_i e0 p0 t1 hread
      cases h
      have hp0 : q.buf.read (t.pos + 1) = some p0 := holdsBytes_of_readBytes hread 1 (by simp)
      obtain ⟨-, rfl⟩ := readBytes_ok hread
      exact ⟨p0, hp0, .inl rfl⟩
    · cases h
    · cases h
  · split at h
    · rename_i e0 p0 p1 t1 hread
      have hp0 : q.buf.read (t.pos + 1) = some p0 := holdsBytes_of_readBytes hread 1 (by simp)
      obtain ⟨-, rfl⟩ := readBytes_ok hread
      split at h
      · cases h
      · cases h
        exact ⟨p0, hp0, .inr (.inl ⟨p1, _, rfl⟩)⟩
    · cases h
    · cases h
  · split at h
    · rename_i e0 p0 p1 p2 t1 hread
      have hp0 : q.buf.read (t.pos + 1) = some p0 := holdsBytes_of_readBytes hread 1 (by simp)
      obtain ⟨-, rfl⟩ := readBytes_ok hread
      split at h
      · split at h
        · cases h
        · split at h
          · cases h
            exact ⟨p0, hp0, .inr (.inr ⟨p1, p2, _, rfl⟩)⟩
          · cases h
      · cases h
    · cases h
    · cases h

theorem top_bits {v : Byte} (h : v &&& 0xC0 = 0xC0) : v.getLsbD 7 = true ∧ v.getLsbD 6 = true := by
  revert v
  decide

/-- What any payload leaves: the space of its form, the EVEX fields alone under VEX, and no `R` or `X` where the two top
bits of its first byte are set, as they are inverted (R102, R104). -/
theorem readEscape_ps {q : Source} {e : Escape} {t t' : Txn} (h : readEscape q e t = .ok t') :
    t'.ps.space ≠ .legacy ∧
      (t'.ps.space = .vex → t'.ps.rp = t.ps.rp ∧ t'.ps.vp = t.ps.vp ∧ t'.ps.bcst = t.ps.bcst) ∧
      ((∃ v, q.buf.read (t.pos + 1) = some v ∧ v &&& 0xC0 = 0xC0) → t'.ps.r = false ∧ t'.ps.x = false) := by
  obtain ⟨p0, hp0, hps⟩ := readEscape_payload h
  have htop : (∃ v, q.buf.read (t.pos + 1) = some v ∧ v &&& 0xC0 = 0xC0) → p0.getLsbD 7 = true ∧ p0.getLsbD 6 = true := by
    rintro ⟨v, hv, hbits⟩
    obtain rfl : p0 = v := Option.some.inj (hp0.symm.trans hv)
    exact top_bits hbits
  rcases hps with hps | ⟨p1, map, hps⟩ | ⟨p1, p2, map, hps⟩
  · rw [hps]
    refine ⟨by simp [vex2Payload], fun _ => ⟨rfl, rfl, rfl⟩, fun hv => ?_⟩
    obtain ⟨h7, -⟩ := htop hv
    simp [vex2Payload, h7]
  · rw [hps]
    refine ⟨by simp [vex3Payload], fun _ => ⟨rfl, rfl, rfl⟩, fun hv => ?_⟩
    obtain ⟨h7, h6⟩ := htop hv
    simp [vex3Payload, h7, h6]
  · rw [hps]
    refine ⟨by simp [evexPayload], fun hvex => by simp [evexPayload] at hvex, fun hv => ?_⟩
    obtain ⟨h7, h6⟩ := htop hv
    simp [evexPayload, h7, h6]

theorem legacyBeforeEscape_ok {q : Source} {ps0 ps ps' : PrefixState} (h : legacyBeforeEscape q ps0 ps = .ok ps') :
    ps' = { ps with has66 := false, rep := none, rexPresent := false } := by
  have hdrop : ¬ForbiddenBeforeEscape ps0 ∨ q.params.legacyBeforeEscape = .ppWins := by
    by_cases hf : ForbiddenBeforeEscape ps0
    · cases hq : q.params.legacyBeforeEscape with
      | fail => rw [legacyBeforeEscape_fail hf hq] at h; cases h
      | ppWins => exact .inr rfl
    · exact .inl hf
  rw [legacyBeforeEscape_drop hdrop] at h
  cases h
  rfl

theorem extensionBits_ok {q : Source} {ps ps' : PrefixState} (h : extensionBits q ps = .ok ps') :
    (ps' = ps ∧ (q.bitness = .b64 ∨ ¬ExtensionAsserted ps)) ∨ ps' = clearExtension ps := by
  by_cases hkeep : q.bitness = .b64 ∨ ¬ExtensionAsserted ps
  · rw [extensionBits_keep hkeep] at h
    cases h
    exact .inl ⟨rfl, hkeep⟩
  · obtain ⟨h64, hext⟩ := not_or.mp hkeep
    cases hq : q.params.extBitsNon64 with
    | fail => rw [extensionBits_fail h64 (not_not.mp hext) hq] at h; cases h
    | ignore =>
      rw [extensionBits_ignore h64 (not_not.mp hext) hq] at h
      cases h
      exact .inr rfl

theorem escapedState_of_escapeStage {q : Source} {e : Escape} {t t' : Txn} (hps : LegacyState q.bitness t.ps)
    (htop : q.bitness ≠ .b64 → ∃ v, q.buf.read (t.pos + 1) = some v ∧ v &&& 0xC0 = 0xC0)
    (h : escapeStage q e t = .ok t') : EscapedState q.bitness t'.ps := by
  obtain ⟨t1, ps2, ps3, hread, hlegacy, hext, rfl⟩ := escapeStage_ok h
  obtain ⟨hspace, hvex, hbits⟩ := readEscape_ps hread
  obtain ⟨hrp, hvp, hbcst, -⟩ := hps.payload
  rw [hrp, hvp, hbcst] at hvex
  obtain rfl := legacyBeforeEscape_ok hlegacy
  rcases extensionBits_ok hext with ⟨rfl, hkeep⟩ | rfl
  · refine ⟨hspace, ⟨rfl, rfl, rfl⟩, hvex, fun h64 => ?_, rfl⟩
    obtain ⟨hr, hx⟩ := hbits (htop h64)
    exact ⟨hr, hx, hkeep.resolve_left h64⟩
  · refine ⟨hspace, ⟨rfl, rfl, rfl⟩, fun hs => ⟨rfl, rfl, (hvex hs).2.2⟩, fun h64 => ?_, rfl⟩
    obtain ⟨hr, hx⟩ := hbits (htop h64)
    exact ⟨hr, hx, not_extensionAsserted_clearExtension _⟩

/-! ## The prefix part read -/

/-- What the prefix scanner leaves: the state after the scan loop with `mp` from the prefixes, or the state after an escape
(R172, R173). -/
def ScannerState (b : Bitness) (ps : PrefixState) : Prop :=
  (LegacyState b ps ∧ ps.mp = legacyMp ps.rep ps.has66) ∨ EscapedState b ps

/-- In 64-bit mode no byte that the scan loop or the escape test takes arrives as a Legacy opcode (R162, R165). -/
def OpcodeByteFree (b : Bitness) (v : Byte) : Prop := b = .b64 → v.toNat / 16 ≠ 4 ∧ escapeOf v = none

theorem scannerState_of_prefixStage {q : Source} {t : Txn} (h : prefixStage q (Txn.initial q.start) = .ok t) :
    ScannerState q.bitness t.ps ∧
      (t.ps.space = .legacy → ∀ v, peek q t 0 = .ok v → OpcodeByteFree q.bitness v) := by
  obtain ⟨t1, hscan, hend⟩ := prefixStage_ok h
  have hps : LegacyState q.bitness t1.ps := legacyState_of_scanPrefixes (legacyState_initial _) hscan
  rcases hend with ⟨htest, rfl⟩ | ⟨e, htest, hesc⟩
  · refine ⟨.inl ⟨hps.with_count_mp _ _, rfl⟩, fun _ v hpeek h64 => ⟨fun hrex => ?_, ?_⟩⟩
    · exact not_scannable_of_scanPrefixes hscan hpeek (.inr ⟨h64, hrex⟩)
    · exact escapeOf_eq_none_of_escapeTest htest h64 hpeek
  · have hstate := escapedState_of_escapeStage hps (payload_top_bits_of_escapeTest htest) hesc
    exact ⟨.inr hstate, fun hspace => absurd hspace hstate.space⟩

/-- The prefix part holds what `PS` does. -/
def PrefixHolds (x : Prefix) (ps : PrefixState) : Prop :=
  x.space = ps.space ∧ x.has66 = ps.has66 ∧ x.has67 = ps.has67 ∧ x.seg = ps.seg ∧ x.rep = ps.rep ∧
    x.lock = ps.lock ∧ x.rexPresent = ps.rexPresent ∧ x.w = ps.w ∧ x.r = ps.r ∧ x.x = ps.x ∧ x.b = ps.b ∧
    x.rp = ps.rp ∧ x.vp = ps.vp ∧ x.vvvv = ps.vvvv ∧ x.bcst = ps.bcst ∧
    (∀ v, x = .vex v → v.l = ps.ll.getLsbD 0) ∧ ∀ e, x = .evex e → e.ll = ps.ll ∧ e.z = ps.z ∧ e.aaa = ps.aaa

theorem psPrefix_legacy {ps : PrefixState} (h : ps.space = .legacy) :
    psPrefix ps = .legacy { has66 := ps.has66, has67 := ps.has67, seg := ps.seg, rep := ps.rep, lock := ps.lock,
                            rex := psRex ps } := by
  simp only [psPrefix, h]

theorem psPrefix_vex {ps : PrefixState} (h : ps.space = .vex) :
    psPrefix ps = .vex { has67 := ps.has67, seg := ps.seg, lock := ps.lock, w := ps.w, r := ps.r, x := ps.x, b := ps.b,
                         vvvv := ps.vvvv, l := ps.ll.getLsbD 0 } := by
  simp only [psPrefix, h]

theorem psPrefix_evex {ps : PrefixState} (h : ps.space = .evex) :
    psPrefix ps = .evex { has67 := ps.has67, seg := ps.seg, lock := ps.lock, w := ps.w, r := ps.r, x := ps.x, b := ps.b,
                          rp := ps.rp, vp := ps.vp, vvvv := ps.vvvv, ll := ps.ll, z := ps.z, bcst := ps.bcst,
                          aaa := ps.aaa } := by
  simp only [psPrefix, h]

theorem prefixHolds_of_legacyState {b : Bitness} {ps : PrefixState} (h : LegacyState b ps) :
    PrefixHolds (psPrefix ps) ps := by
  obtain ⟨hrp, hvp, hbcst, hvvvv⟩ := h.payload
  rw [psPrefix_legacy h.space]
  cases hrex : ps.rexPresent with
  | true =>
    have hps : psRex ps = some { w := ps.w, r := ps.r, x := ps.x, b := ps.b } := if_pos hrex
    rw [hps]
    exact ⟨h.space.symm, rfl, rfl, rfl, rfl, rfl, hrex.symm, rfl, rfl, rfl, rfl, hrp.symm, hvp.symm, hvvvv.symm,
      hbcst.symm, fun _ => Prefix.noConfusion, fun _ => Prefix.noConfusion⟩
  | false =>
    have hps : psRex ps = none := if_neg (Bool.eq_false_iff.mp hrex)
    obtain ⟨hw, hr, hx, hb⟩ := h.rexBits hrex
    rw [hps]
    exact ⟨h.space.symm, rfl, rfl, rfl, rfl, rfl, hrex.symm, hw.symm, hr.symm, hx.symm, hb.symm, hrp.symm, hvp.symm,
      hvvvv.symm, hbcst.symm, fun _ => Prefix.noConfusion, fun _ => Prefix.noConfusion⟩

theorem prefixHolds_of_escapedState {b : Bitness} {ps : PrefixState} (h : EscapedState b ps) :
    PrefixHolds (psPrefix ps) ps := by
  obtain ⟨h66, hrep, hrex⟩ := h.dropped
  cases hs : ps.space with
  | legacy => exact absurd hs h.space
  | vex =>
    obtain ⟨hrp, hvp, hbcst⟩ := h.vex hs
    rw [psPrefix_vex hs]
    refine ⟨hs.symm, h66.symm, rfl, rfl, hrep.symm, rfl, hrex.symm, rfl, rfl, rfl, rfl, hrp.symm, hvp.symm, rfl,
      hbcst.symm, fun v hv => ?_, fun _ => Prefix.noConfusion⟩
    cases hv
    rfl
  | evex =>
    rw [psPrefix_evex hs]
    refine ⟨hs.symm, h66.symm, rfl, rfl, hrep.symm, rfl, hrex.symm, rfl, rfl, rfl, rfl, rfl, rfl, rfl, rfl,
      fun _ => Prefix.noConfusion, fun e he => ?_⟩
    cases he
    exact ⟨rfl, rfl, rfl⟩

theorem ScannerState.holds {b : Bitness} {ps : PrefixState} (h : ScannerState b ps) : PrefixHolds (psPrefix ps) ps := by
  rcases h with ⟨h, -⟩ | h
  · exact prefixHolds_of_legacyState h
  · exact prefixHolds_of_escapedState h

/-- The mandatory prefix of each space (R172, R173). -/
theorem ScannerState.mp {b : Bitness} {ps : PrefixState} (h : ScannerState b ps) :
    ps.mp = if ps.space = .legacy then legacyMp ps.rep ps.has66 else ppMp ps.pp := by
  rcases h with ⟨h, hmp⟩ | h
  · rw [if_pos h.space, hmp]
  · rw [if_neg h.space, h.mp]

theorem ScannerState.wfRex_psPrefix {b : Bitness} {ps : PrefixState} (h : ScannerState b ps) :
    wfRex b (psPrefix ps) = true := by
  obtain ⟨-, -, -, -, -, -, hrex, -⟩ := h.holds
  rw [wfRex, hrex]
  by_cases h64 : b = .b64
  · simp [h64]
  · have hnone : ps.rexPresent = false := by
      rcases h with ⟨h, -⟩ | h
      · exact h.rex64 h64
      · exact h.dropped.2.2
    simp [hnone]

theorem ScannerState.wfExt_psPrefix {b : Bitness} {ps : PrefixState} (h : ScannerState b ps) :
    (wfExt b (psPrefix ps) || (psPrefix ps).space == .legacy) = true := by
  obtain ⟨hspace, -, -, -, -, -, -, -, hr, hx, hb, hrp, hvp, hvvvv, -⟩ := h.holds
  rw [wfExt, hspace, hr, hx, hb, hrp, hvp, hvvvv]
  rcases h with ⟨h, -⟩ | h
  · simp [h.space]
  · by_cases h64 : b = .b64
    · simp [h64]
    · obtain ⟨hr, hx, hext⟩ := h.outside64 h64
      have hbits := Bool.eq_false_iff.mpr (mt extensionAsserted_iff.mp hext)
      simp only [Bool.or_eq_false_iff] at hbits
      obtain ⟨⟨⟨hb, hrp⟩, hvp⟩, hvvvv⟩ := hbits
      simp only [hr, hx, hb, hrp, hvp, hvvvv, Bool.or_self, Bool.not_false, Bool.or_true, Bool.true_or]

/-! ## The opcode -/

/-- The byte is one that in 64-bit mode the scanner takes as REX or as an escape (R162, R165). -/
def takenIn64 (v : Byte) : Bool := v &&& 0xF0 == 0x40 || v == 0xC4 || v == 0xC5 || v == 0x62

theorem takenIn64_eq_false {v : Byte} (hrex : v.toNat / 16 ≠ 4) (hesc : escapeOf v = none) : takenIn64 v = false := by
  obtain ⟨hC4, hC5, h62⟩ := escapeOf_eq_none_iff.mp hesc
  have hhigh : v.toNat / 16 ≠ 4 → (v &&& 0xF0 == 0x40) = false := by
    revert v
    decide
  simp only [takenIn64, hhigh hrex, beq_false_of_ne hC4, beq_false_of_ne hC5, beq_false_of_ne h62, Bool.or_self]

/-- A register number in the opcode byte does not make a free byte a taken one. -/
theorem takenIn64_of_and_mask {v mask : Byte} (hmask : mask = 0xFF ∨ mask = 0xF8) (h : takenIn64 (v &&& mask) = true) :
    takenIn64 v = true := by
  rcases hmask with rfl | rfl
  all_goals
    revert v
    decide

theorem wfOpcode_of_free {b : Bitness} {r : Row} {v : Byte} (hmask : r.opmask = 0xFF ∨ r.opmask = 0xF8)
    (hop : v &&& r.opmask = r.op) (hfree : r.space = .legacy → r.map = .m1B → OpcodeByteFree b v) :
    wfOpcode b r = true := by
  by_cases h64 : b = .b64
  · by_cases hspace : r.space = .legacy
    · by_cases hmap : r.map = .m1B
      · obtain ⟨hrex, hesc⟩ := hfree hspace hmap h64
        have hop : takenIn64 r.op = false := by
          rw [← hop, Bool.eq_false_iff]
          exact mt (takenIn64_of_and_mask hmask) (Bool.eq_false_iff.mp (takenIn64_eq_false hrex hesc))
        rw [wfOpcode, Bool.or_eq_true, Bool.not_eq_true']
        exact .inr hop
      · simp [wfOpcode, hmap]
    · simp [wfOpcode, hspace]
  · simp [wfOpcode, h64]

/-- Only the byte at `POS` is read as an opcode of the Legacy map `1B` (R191). -/
theorem readOpcode_m1B {q : Source} {t t' : Txn} (h : readOpcode q t = .ok t') (hspace : t'.ps.space = .legacy)
    (hmap : t'.ps.map = .m1B) : ∃ v, peek q t 0 = .ok v ∧ t'.opcode = some v := by
  unfold readOpcode at h
  split at h
  · cases h
  · rename_i v t1 hread
    obtain ⟨hpeek, rfl⟩ := readByte_ok.mp hread
    split at h
    · rename_i hne
      cases h
      exact absurd hspace hne
    · split at h
      · cases h
        exact ⟨v, hpeek, rfl⟩
      · split at h
        · cases h
        · split_ifs at h
          · obtain ⟨v3, -, rfl⟩ := readOpcodeIn_ok h
            cases hmap
          · obtain ⟨v3, -, rfl⟩ := readOpcodeIn_ok h
            cases hmap
          · cases h
            cases hmap

/-! ## The selected row -/

/-- What the dispatcher has tested of a row, with the candidates that it chose among (R195 to R199). -/
structure RowChosen (b : Bitness) (ps : PrefixState) (m : ModRM) (r : Row) : Prop where
  mode : r.bitness.contains b = true
  key : keyMatch ps (opSize b ps.w ps.has66) m r = true
  length : ∃ fam, r ∈ fam ∧ lengthMatch (lengthSelector ps m fam) r = true
  features : featuresOk ps m r = true

/-- The tests look at `mod` and `reg` of the ModRM part only. -/
theorem RowChosen.congr {b : Bitness} {ps : PrefixState} {m m' : ModRM} {r : Row} (h : RowChosen b ps m r)
    (hmod : m'.mod = m.mod) (hreg : m'.reg = m.reg) : RowChosen b ps m' r := by
  obtain ⟨hmode, hkey, ⟨fam, hfam, hlen⟩, hfeat⟩ := h
  refine ⟨hmode, ?_, ⟨fam, hfam, ?_⟩, ?_⟩
  · simpa only [keyMatch, hmod, hreg] using hkey
  · simpa only [lengthSelector, hmod] using hlen
  · simpa only [featuresOk, hmod] using hfeat

theorem rowChosen_of_selectRow {b : Bitness} {ps : PrefixState} {m : ModRM} {cand : List Row} {r : Row}
    (h : selectRow b ps (opSize b ps.w ps.has66) m cand = .ok r) (hfeat : featuresOk ps m r = true) :
    RowChosen b ps m r := by
  obtain ⟨hcand, hkey, hlen, hmode⟩ := mem_inMode_selected.mp (selectRow_mem h)
  exact ⟨hmode, hkey, ⟨_, List.mem_filter.mpr ⟨hcand, hkey⟩, hlen⟩, hfeat⟩

theorem keyMatch_iff {ps : PrefixState} {osz : OpSize} {m : ModRM} {r : Row} :
    keyMatch ps osz m r = true ↔
      r.mp.all (fun x => decide (x = ps.mp)) = true ∧ r.osz.all (fun x => decide (x = osz)) = true ∧
        r.w.all (fun x => decide (x = ps.w)) = true ∧ r.reg.all (fun x => decide (x = m.reg)) = true ∧
        modMatches r.mod m.mod = true := by
  simp only [keyMatch, Bool.and_eq_true, and_assoc]

/-- A `mod` key is met by the `mod` values of its class (R30, R195). -/
theorem modMatches_iff {x : ModClass} {mod : BitVec 2} : modMatches (some x) mod = true ↔ (mod = 3 ↔ x = .reg) := by
  cases x <;> simp [modMatches]

section
variable {b : Bitness} {ps : PrefixState} {m : ModRM} {r : Row}

theorem wfMandPfx_of_keyMatch {osz : OpSize} (hps : ScannerState b ps) (h : keyMatch ps osz m r = true) :
    wfMandPfx r (psPrefix ps) = true := by
  obtain ⟨hmp, -⟩ := keyMatch_iff.mp h
  obtain ⟨hspace, h66, -, -, hrep, -⟩ := hps.holds
  rw [wfMandPfx, hspace, h66, hrep]
  by_cases hs : ps.space = .legacy
  · rw [hps.mp, if_pos hs] at hmp
    rw [Bool.or_eq_true]
    exact .inr hmp
  · simp [hs]

theorem wfOpSize_of_keyMatch (hps : ScannerState b ps) (h : keyMatch ps (opSize b ps.w ps.has66) m r = true) :
    wfOpSize b r (psPrefix ps) = true := by
  obtain ⟨-, hosz, -⟩ := keyMatch_iff.mp h
  obtain ⟨-, h66, -, -, -, -, -, hw, -⟩ := hps.holds
  rw [wfOpSize, Prefix.opSize, h66, hw]
  exact hosz

theorem wfW_of_keyMatch {osz : OpSize} (hps : ScannerState b ps) (h : keyMatch ps osz m r = true) :
    wfW r (psPrefix ps) = true := by
  obtain ⟨-, -, hwkey, -⟩ := keyMatch_iff.mp h
  obtain ⟨-, -, -, -, -, -, -, hw, -⟩ := hps.holds
  rw [wfW, hw]
  exact hwkey

theorem wfReg_of_keyMatch {osz : OpSize} (h : keyMatch ps osz m r = true) : wfReg r m = true := by
  obtain ⟨-, -, -, hreg, -⟩ := keyMatch_iff.mp h
  exact hreg

/-- A register-only EVEX form with `b` = 1 needs a row that permits rounding or SAE (R199). -/
theorem ersae_ne_none_of_featuresOk (h : featuresOk ps m r = true) (hs : ps.space = .evex) (hb : ps.bcst = true)
    (hmod : m.mod = 3) : r.ersae ≠ .none := by
  intro hnone
  simp [featuresOk, hs, hb, hmod, hnone] at h

theorem lengthMatch_eq (lsel : Option VecLen) (r : Row) : lengthMatch lsel r = r.l.all fun l => lsel == some l := by
  rw [lengthMatch]
  congr
  funext l
  rw [Bool.eq_iff_iff, decide_eq_true_eq, beq_iff_eq]

theorem lengthMatch_some (l : VecLen) (r : Row) : lengthMatch (some l) r = r.l.all (· == l) := by
  rw [lengthMatch_eq]
  congr
  funext x
  rw [Bool.eq_iff_iff, beq_iff_eq, beq_iff_eq, Option.some.injEq]
  exact eq_comm

/-- The vector-length key: where `L'L` holds a rounding mode, the row itself permits that, so that the length is 512 for its
family (R196, R199). -/
theorem wfVecLen_of_rowChosen (h : RowChosen b ps m r) : wfVecLen r (psPrefix ps) m = true := by
  obtain ⟨fam, hfam, hlen⟩ := h.length
  cases hs : ps.space with
  | legacy => rw [psPrefix_legacy hs]; rfl
  | vex =>
    simp only [lengthSelector, hs, lengthMatch_some] at hlen
    rw [psPrefix_vex hs]
    exact hlen
  | evex =>
    simp only [lengthSelector, hs] at hlen
    rw [psPrefix_evex hs]
    by_cases hb : ps.bcst = true ∧ m.mod = 3
    · obtain ⟨hb, hmod⟩ := hb
      have hany : fam.any (fun x => decide (x.ersae ≠ .none)) = true :=
        List.any_eq_true.mpr ⟨r, hfam, decide_eq_true (ersae_ne_none_of_featuresOk h.features hs hb hmod)⟩
      have h512 : lengthMatch (some .l512) r = true := by
        simpa only [hb, hmod, hany, decide_true, Bool.and_true, if_true] using hlen
      rw [lengthMatch_some] at h512
      simpa only [wfVecLen, hb, hmod, beq_self_eq_true, Bool.and_true, if_true] using h512
    · have hoff : (ps.bcst && decide (m.mod = 3)) = false := by simpa using hb
      have hll : lengthMatch (evexLen ps.ll) r = true := by
        simpa only [hoff, Bool.false_and, Bool.false_eq_true, if_false] using hlen
      rw [lengthMatch_eq] at hll
      exact (if_neg (Bool.eq_false_iff.mp hoff)).trans hll

/-- `vvvv` and `V'` unused are zero (R199). -/
theorem wfVvvv_of_featuresOk (hps : ScannerState b ps) (h : featuresOk ps m r = true) :
    wfVvvv r (psPrefix ps) = true := by
  obtain ⟨hspace, -, -, -, -, -, -, -, -, -, -, -, hvp, hvvvv, -⟩ := hps.holds
  rw [wfVvvv, hspace, hvp, hvvvv]
  simp only [featuresOk, Bool.and_eq_true] at h
  obtain ⟨⟨hv, -⟩, -⟩ := h
  simpa [or_iff_not_imp_left] using hv

theorem wfRegK_of_featuresOk (hps : ScannerState b ps) (h : featuresOk ps m r = true) :
    wfRegK r (psPrefix ps) = true := by
  obtain ⟨-, -, -, -, -, -, -, -, hr, -, -, hrp, -⟩ := hps.holds
  rw [wfRegK, hr, hrp, ← Bool.not_and]
  simp only [featuresOk, Bool.and_eq_true] at h
  exact h.2

/-- Every check that reads the prefix part, `mod` and `reg` (R162, R171, R172, R195 to R199). -/
theorem headChecks_of_rowChosen (hps : ScannerState b ps) (h : RowChosen b ps m r) :
    [wfMode b r, wfRex b (psPrefix ps), wfExt b (psPrefix ps) || (psPrefix ps).space == .legacy,
      wfMandPfx r (psPrefix ps), wfOpSize b r (psPrefix ps), wfW r (psPrefix ps), wfReg r m, wfMod r m,
      wfVecLen r (psPrefix ps) m, wfVvvv r (psPrefix ps), wfFeatures r (psPrefix ps) m,
      wfRegK r (psPrefix ps)].all id = true := by
  simp only [List.all_cons, List.all_nil, id, Bool.and_true, h.mode, wfMode, hps.wfRex_psPrefix, hps.wfExt_psPrefix,
    wfMandPfx_of_keyMatch hps h.key, wfOpSize_of_keyMatch hps h.key, wfW_of_keyMatch hps h.key,
    wfReg_of_keyMatch h.key, wfMod_of_keyMatch h.key, wfVecLen_of_rowChosen h, wfVvvv_of_featuresOk hps h.features,
    wfFeatures_of_featuresOk h.features, wfRegK_of_featuresOk hps h.features]

end

/-! ## The reads after the dispatcher -/

theorem dispLength_mem (a : AddrSize) (mod : BitVec 2) (rm : BitVec 3) (bs : Option (BitVec 3)) :
    dispLength a mod rm bs ∈ [0, 1, 2, 4] := by
  cases a
  all_goals
    simp only [dispLength]
    split_ifs <;> simp

theorem dispOf_size {bs : List Byte} (h : bs.length ∈ [0, 1, 2, 4]) : (dispOf bs).size = bs.length := by
  simp only [List.mem_cons, List.not_mem_nil, or_false] at h
  rcases h with h | h | h | h <;> simp [dispOf, h, Disp.size]

/-- A ModRM byte without SIB so far gets the SIB byte and the displacement that its addressing form has (R229, R233). -/
theorem addressStage_checked {q : Source} {a : AddrSize} {t t' : Txn} {m : ModRM} (hm : t.modrm = some m)
    (hsib : m.sib = none) (h : addressStage q a t = .ok t') :
    ∃ pos m', t' = { t with pos := pos, modrm := some m' } ∧ m'.mod = m.mod ∧ m'.reg = m.reg ∧
      wfSib a m' = true ∧ wfDisp a m' = true := by
  rcases addressStage_ok h with ⟨hnone, -⟩ | ⟨m0, m1, t1, m2, t2, hm0, hreadSib, hreadDisp, rfl⟩
  · cases hm.symm.trans hnone
  · obtain rfl : m0 = m := Option.some.inj (hm0.symm.trans hm)
    obtain ⟨pos, rfl, hmod, hreg, hsib1⟩ : ∃ pos, t1 = { t with pos := pos } ∧ m1.mod = m0.mod ∧ m1.reg = m0.reg ∧
        wfSib a m1 = true := by
      rcases readSib_ok hreadSib with ⟨hf, v, -, rfl, rfl⟩ | ⟨hf, rfl, rfl⟩
      · exact ⟨_, rfl, rfl, rfl, by simp [wfSib, hf]⟩
      · exact ⟨_, rfl, rfl, rfl, by simp [wfSib, hf, hsib]⟩
    obtain ⟨bs, hread, rfl⟩ := readDisp_ok hreadDisp
    obtain ⟨hlen, rfl⟩ := readBytes_ok hread
    refine ⟨_, _, rfl, hmod, hreg, hsib1, ?_⟩
    have hsize : (dispOf bs).size = bs.length := dispOf_size (hlen ▸ dispLength_mem ..)
    exact beq_iff_eq.mpr (hsize.trans hlen)

/-! ## The whole decode -/

/-- What the dispatcher leaves in a transaction, `r` the row that it selected: the row, the sizes, an opcode byte that the row
accepts, and every test of the dispatcher passed (R191 to R199). -/
structure DispatchedBy (q : Source) (r : Row) (t : Txn) : Prop where
  mem : r ∈ q.params.table
  row : t.row = some r
  osz : t.osz = some (opSize q.bitness t.ps.w t.ps.has66)
  asz : t.asz = some (addrSize q.bitness t.ps.has67)
  scanned : ScannerState q.bitness t.ps
  space : r.space = t.ps.space
  map : r.map = t.ps.map
  opcode : ∃ op, t.opcode = some op ∧ op &&& r.opmask = r.op ∧
    (r.space = .legacy → r.map = .m1B → OpcodeByteFree q.bitness op)
  chosen : RowChosen q.bitness t.ps (t.modrm.getD ModRM.zero) r
  modrm : admissible q.params.table = true → t.modrm.isSome = r.hasModrm

/-- The map that the opcode bytes select is no part of what the scanner left under test. -/
theorem ScannerState.with_map {b : Bitness} {ps : PrefixState} (h : ScannerState b ps) (map : OpMap) :
    ScannerState b { ps with map := map } := by
  rcases h with ⟨h, hmp⟩ | h
  · exact .inl ⟨⟨h.space, h.rex64, h.rexBits, h.payload⟩, hmp⟩
  · exact .inr ⟨h.space, h.dropped, h.vex, h.outside64, h.mp⟩

theorem dispatchedBy_of_dispatchStage {q : Source} {t t' : Txn} {r : Row} (hps : ScannerState q.bitness t.ps)
    (hfree : t.ps.space = .legacy → ∀ v, peek q t 0 = .ok v → OpcodeByteFree q.bitness v) (hm : t.modrm = none)
    (h : dispatchStage q t = .ok (r, t')) :
    DispatchedBy q r t' ∧ ∀ m, t'.modrm = some m → m.sib = none := by
  have hd := dispatched_of_dispatchStage hm h
  obtain ⟨t1, t2, hop, hmodrm, hsel, hfeat, rfl⟩ := dispatchStage_ok h
  have hchosen := rowChosen_of_selectRow hsel hfeat
  obtain ⟨hcand, -⟩ := mem_inMode_selected.mp (selectRow_mem hsel)
  obtain ⟨hmem, hspace, hmap, hmask⟩ := mem_candidates.mp hcand
  have hfree1 : ∀ op, t1.opcode = some op → r.space = .legacy → r.map = .m1B → OpcodeByteFree q.bitness op := by
    intro op hopcode hs hm
    obtain ⟨v, hpeek, hv⟩ := readOpcode_m1B hop (hspace ▸ hs) (hmap ▸ hm)
    obtain rfl : v = op := Option.some.inj (hv.symm.trans hopcode)
    refine hfree ?_ v hpeek
    obtain ⟨pos, map, w, -, -, rfl⟩ := readOpcode_ok hop
    exact hspace.symm.trans hs
  obtain ⟨pos, map, v, -, -, rfl⟩ := readOpcode_ok hop
  rcases readModRM_ok hmodrm with ⟨-, w, -, rfl⟩ | ⟨-, rfl⟩
  · refine ⟨⟨hmem, rfl, rfl, rfl, hps.with_map map, hspace, hmap, ⟨v, rfl, hmask, hfree1 v rfl⟩, hchosen, hd.modrm⟩,
      fun m hm => ?_⟩
    cases hm
    rfl
  · exact ⟨⟨hmem, rfl, rfl, rfl, hps.with_map map, hspace, hmap, ⟨v, rfl, hmask, hfree1 v rfl⟩, hchosen, hd.modrm⟩,
      fun m hm' => by cases hm.symm.trans hm'⟩

/-- The later reads move `POS`, complete the ModRM part and set the trailing field. -/
theorem DispatchedBy.with_reads {q : Source} {r : Row} {t : Txn} (h : DispatchedBy q r t) {pos : Nat}
    {modrm : Option ModRM} {trail : List Byte} (hsome : modrm.isSome = t.modrm.isSome)
    (hmod : (modrm.getD ModRM.zero).mod = (t.modrm.getD ModRM.zero).mod)
    (hreg : (modrm.getD ModRM.zero).reg = (t.modrm.getD ModRM.zero).reg) :
    DispatchedBy q r { t with pos := pos, modrm := modrm, trail := trail } where
  mem := h.mem
  row := h.row
  osz := h.osz
  asz := h.asz
  scanned := h.scanned
  space := h.space
  map := h.map
  opcode := h.opcode
  chosen := h.chosen.congr hmod hreg
  modrm ha := hsome.trans (h.modrm ha)

/-- What a decode that succeeds leaves: after the dispatcher, SIB, displacement and trailing field as the addressing form and
the row give them (R111, R229, R233). -/
structure DecodedBy (q : Source) (r : Row) (t : Txn) : Prop extends DispatchedBy q r t where
  address : ∀ m, t.modrm = some m →
    wfSib (addrSize q.bitness t.ps.has67) m = true ∧ wfDisp (addrSize q.bitness t.ps.has67) m = true
  trail : t.trail.length = trailLength (addrSize q.bitness t.ps.has67) r.ops

theorem decodedBy_of_decode {q : Source} {d : Decoded} {t : Txn} (h : decode q = .ok (d, t)) :
    ∃ r, DecodedBy q r t ∧ d = decodedOf r (txnParts t) := by
  obtain ⟨t1, r, t2, t3, hpre, hdis, haddr, htrail, rfl⟩ := decode_ok h
  obtain ⟨hps, hfree⟩ := scannerState_of_prefixStage hpre
  obtain ⟨pos1, ps1, ht1, -⟩ := scanned_of_prefixStage hpre
  have hm1 : t1.modrm = none := by rw [ht1]; rfl
  obtain ⟨hd, hnosib⟩ := dispatchedBy_of_dispatchStage hps hfree hm1 hdis
  obtain ⟨bs, hread, rfl⟩ := trailStage_ok htrail
  obtain ⟨hlen, -⟩ := readBytes_ok hread
  refine ⟨r, ?_, rfl⟩
  cases hm : t2.modrm with
  | none =>
    obtain ⟨-, rfl⟩ | ⟨m, _, _, _, _, hsome, -⟩ := addressStage_ok haddr
    · refine ⟨hd.with_reads rfl rfl rfl, fun m hm' => ?_, hlen⟩
      cases hm.symm.trans hm'
    · cases hm.symm.trans hsome
  | some m =>
    obtain ⟨pos, m', rfl, hmod, hreg, hsib, hdisp⟩ := addressStage_checked hm (hnosib m hm) haddr
    refine ⟨hd.with_reads (by rw [hm]; rfl) (by rw [hm]; exact hmod) (by rw [hm]; exact hreg), fun m0 hm0 => ?_, hlen⟩
    cases hm0
    exact ⟨hsib, hdisp⟩

/-! ## The checks -/

/-- What the conditions on an admissible row say of its opcode mask and of its keys on the ModRM byte (R30, R203 (e)). -/
theorem rowAdmissible_keys {r : Row} (h : rowAdmissible r = true) :
    (r.opmask = 0xFF ∨ r.opmask = 0xF8) ∧ (r.reg ≠ none ∨ r.mod ≠ none → r.hasModrm = true) := by
  simp only [rowAdmissible, Bool.and_eq_true] at h
  obtain ⟨⟨⟨⟨⟨⟨⟨⟨⟨⟨-, -⟩, -⟩, -⟩, hhas⟩, -⟩, -⟩, -⟩, -⟩, hmask⟩, -⟩ := h
  refine ⟨by simpa using hmask, fun hkey => ?_⟩
  rw [beq_iff_eq.mp hhas]
  rcases hkey with hkey | hkey <;> simp [Option.isSome_iff_ne_none.mpr hkey]

section
variable {q : Source} {r : Row} {t : Txn}

theorem DecodedBy.wfChecks_txnParts (h : DecodedBy q r t) (ha : admissible q.params.table = true) :
    (wfChecks q.bitness r (txnParts t)).all id = true := by
  obtain ⟨-, -, hrows⟩ := (admissible_iff _).mp ha
  obtain ⟨hmask, -⟩ := rowAdmissible_keys (hrows r h.mem)
  obtain ⟨op, -, hop, hfree⟩ := h.opcode
  have hasz : (txnParts t).pfx.addrSize q.bitness = addrSize q.bitness t.ps.has67 := by
    obtain ⟨-, -, h67, -⟩ := h.scanned.holds
    exact congrArg (addrSize q.bitness) h67
  have haddress : ((txnParts t).modrm.isNone || wfSib (addrSize q.bitness t.ps.has67) (txnParts t).m) = true ∧
      ((txnParts t).modrm.isNone || wfDisp (addrSize q.bitness t.ps.has67) (txnParts t).m) = true := by
    cases hm : (txnParts t).modrm with
    | none => exact ⟨rfl, rfl⟩
    | some m =>
      have hget : (txnParts t).m = m := by rw [Parts.m, hm]; rfl
      rw [hget]
      exact h.address m hm
  have htail : [(txnParts t).modrm.isNone || wfSib (addrSize q.bitness t.ps.has67) (txnParts t).m,
      (txnParts t).modrm.isNone || wfDisp (addrSize q.bitness t.ps.has67) (txnParts t).m,
      wfTrail (addrSize q.bitness t.ps.has67) r (txnParts t).trail, wfOpcode q.bitness r].all id = true := by
    simp only [List.all_cons, List.all_nil, id, Bool.and_true, haddress, wfOpcode_of_free hmask hop hfree]
    exact beq_iff_eq.mpr h.trail
  have hhead := headChecks_of_rowChosen h.scanned h.chosen
  have happend := List.all_append.trans (Bool.and_eq_true_iff.mpr ⟨hhead, htail⟩)
  rw [wfChecks, hasz]
  exact happend

/-- The instruction that a reference row and its parts are decoded to has exactly those parts, but for a register number that
the row does not have. -/
theorem DecodedBy.instr (h : DecodedBy q r t) (ha : admissible q.params.table = true) {i : Instr}
    (hi : decodedOf r (txnParts t) = .instr i) :
    r.code = .ref i.code ∧
      i.fields.toParts = { txnParts t with low := if r.opmask = 0xF8 then (txnParts t).low else 0 } := by
  obtain ⟨c, hc, href, rfl⟩ := decodedOf_instr.mp hi
  have hrow := isReference_eq hc href
  have hspace : (txnParts t).pfx.space = c.row.space := by
    rw [← hrow]
    exact (psPrefix_space t.ps).trans h.space.symm
  have hmodrm : (txnParts t).modrm.isSome = c.row.hasModrm := by
    rw [← hrow]
    exact h.modrm ha
  have htrail : (txnParts t).trail.length = trailLength (addrSize q.bitness t.ps.has67) c.row.ops := by
    rw [← hrow]
    exact h.trail
  have hmask : c.row.opmask = r.opmask := by rw [← hrow]
  rw [Instr.code, fields_build_of_fits hspace hmodrm htrail, hmask]
  exact ⟨hc, rfl⟩

end

/-- Settles O24: the decode goes through its stages, each of which leaves what the checks ask; and the instruction built from
the parts has those parts as its fields. -/
theorem decodedPassesEveryCheck : Obligations.DecodedPassesEveryCheck := by
  unfold Obligations.DecodedPassesEveryCheck
  intro q d t ha hdec
  obtain ⟨r, h, rfl⟩ := decodedBy_of_decode hdec
  obtain ⟨-, -, hrows⟩ := (admissible_iff _).mp ha
  obtain ⟨-, hkeys⟩ := rowAdmissible_keys (hrows r h.mem)
  obtain ⟨op, hopcode, hop, -⟩ := h.opcode
  obtain ⟨hmp, hosz, hw, hreg, hmod⟩ := keyMatch_iff.mp h.chosen.key
  have hchecks := h.wfChecks_txnParts ha
  have hread (hkey : r.reg ≠ none ∨ r.mod ≠ none) : ∃ m, t.modrm = some m :=
    Option.isSome_iff_exists.mp ((h.modrm ha).trans (hkeys hkey))
  refine ⟨r, h.mem, h.row, rfl, ⟨h.space, h.map, op, hopcode, hop, ?_⟩, ⟨hmp, ?_, hw, fun x hx => ?_, fun x hx => ?_⟩,
    h.scanned.mp, h.osz, h.asz, h.scanned.holds, rfl, rfl, hchecks, fun i hi => ?_⟩
  · simp only [txnParts, hopcode, Option.getD_some, extractLsb'_byte_toNat, pow_zero, Nat.div_one]
    rfl
  · simpa only [h.osz, Option.some.injEq] using hosz
  · obtain ⟨m, hm⟩ := hread (.inl (by simp [hx]))
    rw [hm, hx] at hreg
    exact ⟨m, hm, (of_decide_eq_true hreg).symm⟩
  · obtain ⟨m, hm⟩ := hread (.inr (by simp [hx]))
    rw [hm, hx] at hmod
    exact ⟨m, hm, modMatches_iff.mp hmod⟩
  · obtain ⟨hcode, hparts⟩ := h.instr ha hi
    refine ⟨hcode, ?_, ?_, ?_, ?_, ?_⟩
    · rw [hparts]
      exact hchecks
    · rw [hparts]
    · rw [hparts]
      rfl
    · rw [hparts]
      rfl
    · intro hmask
      rw [hparts]
      exact if_pos hmask

end Sys2Proof.Proofs
end

section
/-! PROOFS. The dispatcher forwards (spec R191 to R200, R335): which bytes it reads as the opcode, what each outcome of a
stage makes of the dispatcher and of the decode, and the failure kind of a missing row. -/

namespace Sys2Proof.Proofs

open Sys2Proof.Machine Sys2Proof.Laws

/-! ## The opcode, byte by byte -/

/-- Bytes that stand in the buffer inside the length limit can be peeked (R150). -/
theorem peek_of_holdsBytes {q : Source} {t : Txn} {bs : List Byte} (hlim : t.pos + bs.length ≤ q.start + maxLen)
    (h : HoldsBytes q.buf t.pos bs) {k : Nat} {v : Byte} (hk : bs[k]? = some v) : peek q t k = .ok v := by
  obtain ⟨hlt, -⟩ := List.getElem?_eq_some_iff.mp hk
  exact peek_ok.mpr ⟨by omega, (h k hlt).trans hk⟩

section
variable {q : Source} {t : Txn} {v : Byte}

theorem readByte_of_peek (h : peek q t 0 = .ok v) : readByte q t = .ok (v, advance t) := readByte_ok.mpr ⟨h, rfl⟩

theorem readOpcodeIn_of_peek (map : OpMap) (h : peek q t 0 = .ok v) :
    readOpcodeIn q map t = .ok (withOpcode (advance t) map v) := by
  simp only [readOpcodeIn, readByte_of_peek h]

/-- Under VEX and EVEX the byte is the opcode, whatever it is (R192). -/
theorem readOpcode_after_payload (hs : t.ps.space ≠ .legacy) (h : peek q t 0 = .ok v) :
    readOpcode q t = .ok (withOpcode (advance t) t.ps.map v) := by
  simp only [readOpcode, readByte_of_peek h, if_pos hs]

/-- Without the map escape 0Fh the byte is the opcode in map `1B` (R191). -/
theorem readOpcode_without_0F (hs : t.ps.space = .legacy) (hv : v ≠ 0x0F) (h : peek q t 0 = .ok v) :
    readOpcode q t = .ok (withOpcode (advance t) .m1B v) := by
  simp only [readOpcode, readByte_of_peek h, if_neg (not_not.mpr hs), if_pos hv]

/-- After the map escape 0Fh the next byte decides (R191). -/
theorem readOpcode_after_0F (hs : t.ps.space = .legacy) (h : peek q t 0 = .ok 0x0F) (h1 : peek q t 1 = .ok v) :
    readOpcode q t =
      if v = 0x38 then readOpcodeIn q .m0F38 (advance (advance t))
      else if v = 0x3A then readOpcodeIn q .m0F3A (advance (advance t))
      else .ok (withOpcode (advance (advance t)) .m0F v) := by
  have hread : readByte q (advance t) = .ok (v, advance (advance t)) :=
    readByte_of_peek ((peek_advance q t 0).trans h1)
  simp only [readOpcode, readByte_of_peek h, if_neg (not_not.mpr hs), ne_eq, not_true_eq_false, if_false, hread]

end

/-- Settles O14: each clause gives the bytes that the read comes to, and they decide its branch. -/
theorem opcodeReadByMap : Obligations.OpcodeReadByMap := by
  unfold Obligations.OpcodeReadByMap
  refine fun q t v => ⟨fun hs => ⟨fun hv hlim hread => ?_, fun h38 h3A hlim hread => ?_, fun hlim hread => ?_,
    fun hlim hread => ?_⟩, fun hs hlim hread => ?_⟩
  · exact readOpcode_without_0F hs hv (peek_of_holdsBytes hlim hread rfl)
  · rw [readOpcode_after_0F hs (peek_of_holdsBytes hlim hread rfl) (peek_of_holdsBytes hlim hread rfl), if_neg h38,
      if_neg h3A]
    rfl
  · rw [readOpcode_after_0F hs (peek_of_holdsBytes hlim hread rfl) (peek_of_holdsBytes hlim hread rfl), if_pos rfl]
    refine readOpcodeIn_of_peek .m0F38 ?_
    rw [peek_advance, peek_advance]
    exact peek_of_holdsBytes hlim hread rfl
  · rw [readOpcode_after_0F hs (peek_of_holdsBytes hlim hread rfl) (peek_of_holdsBytes hlim hread rfl),
      if_neg (by decide), if_pos rfl]
    refine readOpcodeIn_of_peek .m0F3A ?_
    rw [peek_advance, peek_advance]
    exact peek_of_holdsBytes hlim hread rfl
  · exact readOpcode_after_payload hs (peek_of_holdsBytes hlim hread rfl)

/-! ## The selection of a row -/

section
variable {b : Bitness} {ps : PrefixState} {osz : OpSize} {m : ModRM} {cand : List Row}

theorem selectRow_of_selected_nil (h : selected ps osz m cand = []) :
    selectRow b ps osz m cand = .error .InvalidOpcode := by
  simp only [selectRow, h]

theorem selectRow_of_inMode_nil (h : selected ps osz m cand ≠ []) (hmode : inMode b (selected ps osz m cand) = []) :
    selectRow b ps osz m cand = .error .InvalidModeForInstruction := by
  obtain ⟨r, rs, hsel⟩ := List.exists_cons_of_ne_nil h
  rw [hsel] at hmode
  simp only [selectRow, hsel, hmode]

theorem exists_selectRow_of_inMode (h : inMode b (selected ps osz m cand) ≠ []) :
    ∃ r, r ∈ inMode b (selected ps osz m cand) ∧ selectRow b ps osz m cand = .ok r := by
  obtain ⟨r, rs, hmode⟩ := List.exists_cons_of_ne_nil h
  refine ⟨r, hmode ▸ List.mem_cons_self, ?_⟩
  cases hsel : selected ps osz m cand with
  | nil => rw [hsel] at hmode; cases hmode
  | cons r0 rs0 =>
    rw [hsel] at hmode
    simp only [selectRow, hsel, hmode]

end

/-! ## The dispatcher fails with its first failing part -/

section
variable {q : Source} {t t1 t2 : Txn} {op : Byte} {k : FailureKind}

theorem dispatchStage_of_readOpcode_error (h : readOpcode q t = .error k) : dispatchStage q t = .error k := by
  simp only [dispatchStage, h]

theorem dispatchStage_of_no_candidate (h : readOpcode q t = .ok t1) (hop : t1.opcode = some op)
    (hcand : candidates q.params.table t1.ps op = []) : dispatchStage q t = .error .InvalidOpcode := by
  simp only [dispatchStage, h, hop, Option.getD_some, hcand, List.isEmpty_nil, if_true]

section
variable (h : readOpcode q t = .ok t1) (hop : t1.opcode = some op) (hcand : candidates q.params.table t1.ps op ≠ [])
include h hop hcand

theorem dispatchStage_of_readModRM_error (hm : readModRM q (candidates q.params.table t1.ps op) t1 = .error k) :
    dispatchStage q t = .error k := by
  simp only [dispatchStage, h, hop, Option.getD_some, List.isEmpty_iff, hcand, if_false, hm]

theorem dispatchStage_of_selectRow_error (hm : readModRM q (candidates q.params.table t1.ps op) t1 = .ok t2)
    (hsel : selectRow q.bitness t2.ps (opSize q.bitness t2.ps.w t2.ps.has66) (t2.modrm.getD ModRM.zero)
      (candidates q.params.table t1.ps op) = .error k) : dispatchStage q t = .error k := by
  simp only [dispatchStage, h, hop, Option.getD_some, List.isEmpty_iff, hcand, if_false, hm, hsel]

end

end

/-- Settles O15: membership is the filter of R193, and the emptiness of `CAND` is tested before any further read. -/
theorem emptyCandidateSetFails : Obligations.EmptyCandidateSetFails := by
  unfold Obligations.EmptyCandidateSetFails
  exact ⟨fun rows ps op r => mem_candidates, fun q t t1 op => dispatchStage_of_no_candidate⟩

/-! ## The later stages and the decode fail with their first failing part -/

section
variable {q : Source} {a : AddrSize} {t t1 : Txn} {m m1 : ModRM} {k : FailureKind}

theorem addressStage_of_readSib_error (hm : t.modrm = some m) (h : readSib q a m t = .error k) :
    addressStage q a t = .error k := by
  simp only [addressStage, hm, h]

theorem addressStage_of_readDisp_error (hm : t.modrm = some m) (h : readSib q a m t = .ok (m1, t1))
    (h1 : readDisp q a m1 t1 = .error k) : addressStage q a t = .error k := by
  simp only [addressStage, hm, h, h1]

theorem trailStage_of_readBytes_error {r : Row} (h : readBytes q (trailLength a r.ops) t = .error k) :
    trailStage q a r t = .error k := by
  simp only [trailStage, h]

end

section
variable {q : Source} {t1 t2 t3 t4 : Txn} {r : Row} {k : FailureKind}

theorem decode_of_prefixStage_error (h : prefixStage q (Txn.initial q.start) = .error k) : decode q = .error k := by
  simp only [decode, h]

section
variable (hpre : prefixStage q (Txn.initial q.start) = .ok t1)
include hpre

theorem decode_of_dispatchStage_error (h : dispatchStage q t1 = .error k) : decode q = .error k := by
  simp only [decode, hpre, h]

variable (hdis : dispatchStage q t1 = .ok (r, t2))
include hdis

theorem decode_of_addressStage_error (h : addressStage q (addrSize q.bitness t2.ps.has67) t2 = .error k) :
    decode q = .error k := by
  simp only [decode, hpre, hdis, h]

variable (haddr : addressStage q (addrSize q.bitness t2.ps.has67) t2 = .ok t3)
include haddr

theorem decode_of_trailStage_error (h : trailStage q (addrSize q.bitness t2.ps.has67) r t3 = .error k) :
    decode q = .error k := by
  simp only [decode, hpre, hdis, haddr, h]

theorem decode_of_stages (h : trailStage q (addrSize q.bitness t2.ps.has67) r t3 = .ok t4) :
    decode q = .ok (decodedOf r (txnParts t4), t4) := by
  simp only [decode, hpre, hdis, haddr, h]

end

end

/-- Settles O18: the kinds of a missing row, then the dispatcher, the later stages and the decode in the order of R339. -/
theorem dispatchFailureKinds : Obligations.DispatchFailureKinds := by
  unfold Obligations.DispatchFailureKinds
  exact ⟨fun b ps osz m cand =>
      ⟨selectRow_of_selected_nil, selectRow_of_inMode_nil, exists_selectRow_of_inMode⟩,
    fun q t => ⟨fun k => dispatchStage_of_readOpcode_error, fun t1 op h hop hcand =>
      ⟨fun k => dispatchStage_of_readModRM_error h hop hcand,
        fun t2 hm k => dispatchStage_of_selectRow_error h hop hcand hm⟩⟩,
    fun q a t m hm => ⟨fun k => addressStage_of_readSib_error hm,
      fun m1 t1 h k => addressStage_of_readDisp_error hm h⟩,
    fun q a r t k => trailStage_of_readBytes_error,
    fun q => ⟨fun k => decode_of_prefixStage_error, fun t1 hpre =>
      ⟨fun k => decode_of_dispatchStage_error hpre, fun r t2 hdis =>
        ⟨fun k => decode_of_addressStage_error hpre hdis, fun t3 haddr =>
          ⟨fun k => decode_of_trailStage_error hpre hdis haddr,
            fun t4 => decode_of_stages hpre hdis haddr⟩⟩⟩⟩⟩

end Sys2Proof.Proofs
end

section
/-! PROOFS. Selection is unique (spec R198, R203): two rows that dispatch leaves both pass on the input that the stages before
have given, so an admissible table, which has no such pair, leaves one. -/

namespace Sys2Proof.Proofs

open Sys2Proof.Machine Sys2Proof.Laws

/-! ## The input of the key tests -/

/-- What the key tests read of a transaction, `fam` the family of R196. -/
def keyInput (b : Bitness) (ps : PrefixState) (m : ModRM) (fam : List Row) : KeyInput :=
  { bitness := b, w := ps.w, osz := opSize b ps.w ps.has66, mp := ps.mp, lsel := lengthSelector ps m fam,
    modIs3 := decide (m.mod = 3) }

section
variable {b : Bitness} {ps : PrefixState} {m : ModRM} {fam : List Row} {r : Row}

/-- The tests of the dispatcher, but for ModRM.reg, are the tests on the key input (R195 to R197). -/
theorem passes_keyInput (hkey : keyMatch ps (opSize b ps.w ps.has66) m r = true)
    (hlen : lengthMatch (lengthSelector ps m fam) r = true) (hmode : r.bitness.contains b = true) :
    r.passes (keyInput b ps m fam) = true := by
  obtain ⟨hmp, hosz, hw, -, hmod⟩ := keyMatch_iff.mp hkey
  rw [lengthMatch_eq] at hlen
  simp only [Row.passes, Bool.and_eq_true]
  refine ⟨⟨⟨⟨⟨hmp, hosz⟩, hw⟩, ?_⟩, hlen⟩, hmode⟩
  cases hr : r.mod with
  | none => rfl
  | some c => cases c <;> simpa [hr, modMatches, keyInput] using hmod

theorem lengthSelector_legacy (hs : ps.space = .legacy) : lengthSelector ps m fam = none := by
  simp only [lengthSelector, hs]

theorem lengthSelector_vex (hs : ps.space = .vex) : lengthSelector ps m fam ∈ [some VecLen.l128, some .l256] := by
  simp only [lengthSelector, hs]
  cases ps.ll.getLsbD 0 <;> simp [vexLen]

theorem mem_bools (c : Bool) : c ∈ [false, true] := by cases c <;> simp

theorem mem_bitnesses (b : Bitness) : b ∈ [Bitness.b16, .b32, .b64] := by cases b <;> simp

theorem mem_mandPfxs (mp : MandPfx) : mp ∈ [MandPfx.NP, .p66, .pF3, .pF2] := by cases mp <;> simp

theorem mem_vecLens (l : Option VecLen) : l ∈ [none, some VecLen.l128, some .l256, some .l512] := by
  rcases l with _ | _ | _ | _ <;> simp

theorem mem_reps (rep : Option Rep) : rep ∈ [none, some Rep.F3, some .F2] := by
  rcases rep with _ | _ | _ <;> simp

/-- `W` is 1 only in 64-bit mode without an escape (R162). -/
theorem LegacyState.mem_modes (h : LegacyState b ps) :
    (b, ps.w) ∈ [(Bitness.b16, false), (.b32, false), (.b64, false), (.b64, true)] := by
  have hw : b ≠ .b64 → ps.w = false := fun h64 => (h.rexBits (h.rex64 h64)).1
  cases b <;> cases hps : ps.w <;> simp_all

/-- The stages before the key tests give only the listed inputs (R162, R170, R172, R173, R196, R311). -/
theorem keyInput_mem_keyInputs (h : ScannerState b ps) : keyInput b ps m fam ∈ keyInputs ps.space := by
  rcases h with ⟨h, hmp⟩ | h
  · rw [h.space]
    simp only [keyInputs, List.mem_flatMap, List.mem_map]
    refine ⟨_, h.mem_modes, ps.has66, mem_bools _, ps.rep, mem_reps _, _, mem_bools (decide (m.mod = 3)), ?_⟩
    simp only [keyInput, hmp, lengthSelector_legacy h.space]
  · obtain ⟨h66, -, -⟩ := h.dropped
    cases hs : ps.space with
    | legacy => exact absurd hs h.space
    | vex =>
      simp only [keyInputs, List.mem_flatMap, List.mem_map]
      refine ⟨b, mem_bitnesses b, ps.w, mem_bools _, ps.mp, mem_mandPfxs _, lengthSelector ps m fam,
        lengthSelector_vex hs, _, mem_bools (decide (m.mod = 3)), ?_⟩
      simp only [keyInput, h66]
    | evex =>
      simp only [keyInputs, List.mem_flatMap, List.mem_map]
      refine ⟨b, mem_bitnesses b, ps.w, mem_bools _, ps.mp, mem_mandPfxs _, lengthSelector ps m fam,
        mem_vecLens _, _, mem_bools (decide (m.mod = 3)), ?_⟩
      simp only [keyInput, h66]

end

/-! ## The opcode byte -/

/-- A byte under a mask FFh or F8h, with its low three bits put back. -/
theorem eq_and_mask_or_low {v mask : Byte} (hmask : mask = 0xFF ∨ mask = 0xF8) :
    v = (v &&& mask) ||| BitVec.ofNat 8 (v.toNat % 8) := by
  rcases hmask with rfl | rfl
  all_goals
    revert v
    decide

theorem mem_commonOpcodes {r r' : Row} {v : Byte} (hmask : r.opmask = 0xFF ∨ r.opmask = 0xF8)
    (h : v &&& r.opmask = r.op) (h' : v &&& r'.opmask = r'.op) : v ∈ commonOpcodes r r' := by
  rw [commonOpcodes, List.mem_filter, List.mem_map]
  refine ⟨⟨v.toNat % 8, List.mem_range.mpr (Nat.mod_lt _ (by decide)), ?_⟩, by simp [h, h']⟩
  rw [← h]
  exact (eq_and_mask_or_low hmask).symm

/-- The opcode read by its space: one byte after a payload; in the Legacy space, in map `1B` the byte at `POS`, which is not
0Fh, in map `0F` no further map escape, and else one of the two maps of three-byte opcodes (R191, R192). -/
theorem readOpcode_cases {q : Source} {t t' : Txn} (h : readOpcode q t = .ok t') :
    (t.ps.space ≠ .legacy ∧ t'.ps.map = t.ps.map) ∨
      t.ps.space = .legacy ∧
        ((∃ v, v ≠ 0x0F ∧ peek q t 0 = .ok v ∧ t' = withOpcode (advance t) .m1B v) ∨
          (∃ v, v ≠ 0x38 ∧ v ≠ 0x3A ∧ t'.opcode = some v ∧ t'.ps.map = .m0F) ∨
          t'.ps.map = .m0F38 ∨ t'.ps.map = .m0F3A) := by
  unfold readOpcode at h
  split at h
  · cases h
  · rename_i v t1 hread
    obtain ⟨hpeek, rfl⟩ := readByte_ok.mp hread
    split at h
    · rename_i hs
      cases h
      exact .inl ⟨hs, rfl⟩
    · rename_i hs
      refine .inr ⟨not_not.mp hs, ?_⟩
      split at h
      · rename_i hv
        cases h
        exact .inl ⟨v, hv, hpeek, rfl⟩
      · refine .inr ?_
        split at h
        · cases h
        · rename_i v2 t2 _
          split_ifs at h with h38 h3A
          · obtain ⟨v3, -, rfl⟩ := readOpcodeIn_ok h
            exact .inr (.inl rfl)
          · obtain ⟨v3, -, rfl⟩ := readOpcodeIn_ok h
            exact .inr (.inr rfl)
          · cases h
            exact .inl ⟨v2, h38, h3A, rfl, rfl⟩

/-! ## What the scanner leaves for the opcode -/

/-- No payload selects map `1B` (R103). -/
theorem mapOf_ne_m1B {n : Nat} {map : OpMap} (h : mapOf n = some map) : map ≠ .m1B := by
  unfold mapOf at h
  split_ifs at h <;> cases h <;> decide

theorem readEscape_map {q : Source} {e : Escape} {t t' : Txn} (h : readEscape q e t = .ok t') : t'.ps.map ≠ .m1B := by
  cases e with
  | vex2 =>
    simp only [readEscape] at h
    split at h
    · cases h
      exact OpMap.noConfusion
    · cases h
    · cases h
  | vex3 =>
    simp only [readEscape] at h
    split at h
    · split at h
      · cases h
      · rename_i map hmap
        cases h
        exact mapOf_ne_m1B hmap
    · cases h
    · cases h
  | evex =>
    simp only [readEscape] at h
    split at h
    · split at h
      · split at h
        · cases h
        · rename_i map hmap
          split at h
          · cases h
            exact mapOf_ne_m1B hmap
          · cases h
      · cases h
    · cases h
    · cases h

/-- An escape leaves a space other than Legacy, and a map other than `1B`. -/
theorem escapeStage_space_map {q : Source} {e : Escape} {t t' : Txn} (h : escapeStage q e t = .ok t') :
    t'.ps.space ≠ .legacy ∧ t'.ps.map ≠ .m1B := by
  obtain ⟨t1, ps2, ps3, hread, hlegacy, hext, rfl⟩ := escapeStage_ok h
  obtain ⟨hspace, -⟩ := readEscape_ps hread
  have hmap := readEscape_map hread
  obtain rfl := legacyBeforeEscape_ok hlegacy
  rcases extensionBits_ok hext with ⟨rfl, -⟩ | rfl <;> exact ⟨hspace, hmap⟩

theorem map_of_prefixStage {q : Source} {t : Txn} (h : prefixStage q (Txn.initial q.start) = .ok t)
    (hs : t.ps.space ≠ .legacy) : t.ps.map ≠ .m1B := by
  obtain ⟨t1, hscan, ⟨-, rfl⟩ | ⟨e, -, hesc⟩⟩ := prefixStage_ok h
  · exact absurd (legacyState_of_scanPrefixes (legacyState_initial _) hscan).space hs
  · exact (escapeStage_space_map hesc).2

/-- Without an escape the scanner stops at a byte that it does not take, and finds no escape there. -/
theorem stop_of_prefixStage {q : Source} {t0 t : Txn} {v : Byte} (h : prefixStage q t0 = .ok t)
    (hs : t.ps.space = .legacy) (hpeek : peek q t 0 = .ok v) :
    ¬Scannable q.bitness v ∧ escapeTest q t = .ok none := by
  obtain ⟨t1, hscan, ⟨htest, rfl⟩ | ⟨e, -, hesc⟩⟩ := prefixStage_ok h
  · exact ⟨not_scannable_of_scanPrefixes hscan hpeek, htest⟩
  · exact absurd hs (escapeStage_space_map hesc).1

/-- Where the escape test finds no escape, an escape byte stands outside 64-bit mode before a byte that has not both its top
bits set (R104, R165). -/
theorem next_of_no_escape {q : Source} {t : Txn} {v : Byte} (htest : escapeTest q t = .ok none)
    (hpeek : peek q t 0 = .ok v) (hv : escapeOf v ≠ none) :
    q.bitness ≠ .b64 ∧ ∀ v1, peek q t 1 = .ok v1 → ¬v1 &&& 0xC0 = 0xC0 := by
  obtain ⟨e, he⟩ := Option.ne_none_iff_exists'.mp hv
  have h64 : q.bitness ≠ .b64 := fun h64 => hv (escapeOf_eq_none_of_escapeTest htest h64 hpeek)
  refine ⟨h64, fun v1 hpeek1 hbits => ?_⟩
  rw [escapeTest_outside64 hpeek he h64, hpeek1] at htest
  have hsome : some e = none := (if_pos hbits).symm.trans (Except.ok.inj htest)
  cases hsome

/-! ## The byte arrives as the opcode -/

theorem and_F0_eq_iff (v : Byte) : v &&& 0xF0 = 0x40 ↔ v.toNat / 16 = 4 := by
  revert v
  decide

theorem mem_escapeBytes_iff {v : Byte} : v ∈ ([0xC4, 0xC5, 0x62] : List Byte) ↔ escapeOf v ≠ none := by
  rw [ne_eq, escapeOf_eq_none_iff]
  simp only [List.mem_cons, List.not_mem_nil, or_false]
  tauto

/-- The three exclusions of map `1B`: no map escape or prefix byte, no REX byte in 64-bit mode, and an escape byte only
outside 64-bit mode before a byte with `mod` ≠ 3. -/
theorem opcodeArrives_m1B {x : KeyInput} {hasModrm : Bool} {v : Byte} (h0F : v ≠ 0x0F) (hscan : ¬Scannable x.bitness v)
    (hesc : escapeOf v ≠ none → x.bitness ≠ .b64 ∧ (hasModrm = true → x.modIs3 = false)) :
    opcodeArrives .legacy .m1B hasModrm x v = true := by
  obtain ⟨hpfx, hrex⟩ := not_or.mp hscan
  simp only [opcodeArrives, Bool.and_eq_true, Bool.not_eq_true', Bool.eq_false_iff, ne_eq, List.contains_iff_mem,
    Bool.or_eq_true, beq_iff_eq, and_F0_eq_iff, mem_escapeBytes_iff]
  refine ⟨⟨fun hmem => ?_, hrex⟩, fun ⟨hv, hmode⟩ => ?_⟩
  · exact (List.mem_cons.mp hmem).elim h0F hpfx
  · obtain ⟨h64, hmod⟩ := hesc hv
    rcases hmode with hmode | ⟨hhas, h3⟩
    · exact h64 hmode
    · exact Bool.false_ne_true ((hmod hhas).symm.trans h3)

section
variable {q : Source} {t t1 t2 : Txn} {op : Byte} {cand fam : List Row}

/-- The ModRM byte is no part of `PS`. -/
theorem readModRM_ps (h : readModRM q cand t1 = .ok t2) : t2.ps = t1.ps := by
  rcases readModRM_ok h with ⟨-, w, -, rfl⟩ | ⟨-, rfl⟩ <;> rfl

/-- A byte that was read as the opcode arrives as one, on the input that the key tests get: after an escape byte outside
64-bit mode the ModRM byte is the byte that the escape test looked at. -/
theorem opcodeArrives_of_reads (hpre : prefixStage q (Txn.initial q.start) = .ok t) (hop : readOpcode q t = .ok t1)
    (hopcode : t1.opcode = some op) (hmodrm : readModRM q cand t1 = .ok t2) {hasModrm : Bool}
    (hhas : hasModrm = true → cand.any (·.hasModrm) = true) :
    opcodeArrives t2.ps.space t2.ps.map hasModrm
      (keyInput q.bitness t2.ps (t2.modrm.getD ModRM.zero) fam) op = true := by
  have hspace : t1.ps.space = t.ps.space := by
    obtain ⟨pos, map, v, -, -, rfl⟩ := readOpcode_ok hop
    rfl
  rw [readModRM_ps hmodrm, hspace]
  rcases readOpcode_cases hop with ⟨hs, hmap⟩ | ⟨hs, ⟨v, h0F, hpeek, rfl⟩ | ⟨v, h38, h3A, hv, hmap⟩ | hmap | hmap⟩
  · have hne := map_of_prefixStage hpre hs
    rw [← hmap] at hne
    cases hsp : t.ps.space with
    | legacy => exact absurd hsp hs
    | vex => simpa [opcodeArrives] using hne
    | evex => simpa [opcodeArrives] using hne
  · obtain rfl : v = op := Option.some.inj hopcode
    obtain ⟨hscan, htest⟩ := stop_of_prefixStage hpre hs hpeek
    rw [hs]
    refine opcodeArrives_m1B h0F hscan fun hesc => ?_
    obtain ⟨h64, hnext⟩ := next_of_no_escape htest hpeek hesc
    refine ⟨h64, fun hm => ?_⟩
    rcases readModRM_ok hmodrm with ⟨-, w, hw, rfl⟩ | ⟨hnone, -⟩
    · have hbits := hnext w ((peek_advance q t 0).symm.trans hw)
      exact decide_eq_false (mt (top_bits_set_iff w).mp hbits)
    · exact absurd (hhas hm) (Bool.eq_false_iff.mp hnone)
  · obtain rfl : v = op := Option.some.inj (hv.symm.trans hopcode)
    rw [hs, hmap]
    exact Bool.and_eq_true_iff.mpr ⟨bne_iff_ne.mpr h38, bne_iff_ne.mpr h3A⟩
  · simp [opcodeArrives, hs, hmap]
  · simp [opcodeArrives, hs, hmap]

/-! ## One row -/

/-- The rows that pass the keys, the vector length and the mode filter after the reads: `SEL2` of R197. -/
def leftRows (q : Source) (t : Txn) (cand : List Row) : List Row :=
  inMode q.bitness (selected t.ps (opSize q.bitness t.ps.w t.ps.has66) (t.modrm.getD ModRM.zero) cand)

/-- What dispatch leaves stands in the table, in the table's order. -/
theorem leftRows_sublist (q : Source) (t : Txn) (rows : List Row) (ps : PrefixState) (op : Byte) :
    (leftRows q t (candidates rows ps op)).Sublist rows :=
  List.filter_sublist.trans (List.filter_sublist.trans (List.filter_sublist.trans List.filter_sublist))

theorem scannerState_of_reads (hpre : prefixStage q (Txn.initial q.start) = .ok t) (hop : readOpcode q t = .ok t1)
    (hmodrm : readModRM q cand t1 = .ok t2) : ScannerState q.bitness t2.ps := by
  obtain ⟨hps, -⟩ := scannerState_of_prefixStage hpre
  obtain ⟨pos, map, v, -, -, rfl⟩ := readOpcode_ok hop
  rw [readModRM_ps hmodrm]
  exact hps.with_map map

/-- Two rows that the dispatcher leaves, which may be one row twice, can both pass in the sense of R203 (b). -/
theorem bothPass_of_mem_leftRows {r r' : Row} (ha : admissible q.params.table = true)
    (hpre : prefixStage q (Txn.initial q.start) = .ok t) (hop : readOpcode q t = .ok t1)
    (hopcode : t1.opcode = some op) (hmodrm : readModRM q (candidates q.params.table t1.ps op) t1 = .ok t2)
    (h : r ∈ leftRows q t2 (candidates q.params.table t1.ps op))
    (h' : r' ∈ leftRows q t2 (candidates q.params.table t1.ps op)) : bothPass r r' = true := by
  obtain ⟨hcand, hkey, hlen, hmode⟩ := mem_inMode_selected.mp h
  obtain ⟨hcand', hkey', hlen', hmode'⟩ := mem_inMode_selected.mp h'
  obtain ⟨hmem, hspace, hmap, hmask⟩ := mem_candidates.mp hcand
  obtain ⟨-, -, -, hmask'⟩ := mem_candidates.mp hcand'
  obtain ⟨-, -, -, hreg, -⟩ := keyMatch_iff.mp hkey
  obtain ⟨-, -, -, hreg', -⟩ := keyMatch_iff.mp hkey'
  obtain ⟨-, -, hrows⟩ := (admissible_iff _).mp ha
  obtain ⟨hopmask, -⟩ := rowAdmissible_keys (hrows r hmem)
  have hhas : (r.hasModrm || r'.hasModrm) = true →
      (candidates q.params.table t1.ps op).any (·.hasModrm) = true := by
    rw [← candidates_any_hasModrm ha hcand, ← candidates_any_hasModrm ha hcand', Bool.or_self]
    exact id
  refine bothPass_of_input (opcodesOverlap_of_candidates hcand hcand') hreg hreg' ?_ (passes_keyInput hkey hlen hmode)
    (passes_keyInput hkey' hlen' hmode') (mem_commonOpcodes hopmask hmask hmask') ?_
  · rw [hspace, ← readModRM_ps hmodrm]
    exact keyInput_mem_keyInputs (scannerState_of_reads hpre hop hmodrm)
  · rw [hspace, hmap, ← readModRM_ps hmodrm]
    exact opcodeArrives_of_reads hpre hop hopcode hmodrm hhas

end

/-- A member of a list is all of it when the list is pairwise related and no two members are. -/
theorem eq_singleton_of_pairwise {α : Type} {R : α → α → Prop} {l : List α} {a : α} (ha : a ∈ l)
    (hpair : l.Pairwise R) (hnone : ∀ x ∈ l, ∀ y ∈ l, ¬R x y) : l = [a] := by
  match l with
  | [] => cases ha
  | [x] => rw [List.mem_singleton.mp ha]
  | x :: y :: rest =>
    have hxy : R x y := List.rel_of_pairwise_cons hpair List.mem_cons_self
    exact absurd hxy (hnone x List.mem_cons_self y (List.mem_cons_of_mem x List.mem_cons_self))

/-- Settles O16: the rows left stand at different places of the table, and any two of them can both pass. -/
theorem selectedRowIsUnique : Obligations.SelectedRowIsUnique := by
  unfold Obligations.SelectedRowIsUnique
  intro q t t1 t2 op r ha hpre hop hopcode hmodrm osz m hsel
  obtain ⟨-, hdisjoint, -⟩ := (admissible_iff _).mp ha
  refine eq_singleton_of_pairwise (selectRow_mem hsel) (hdisjoint.sublist (leftRows_sublist q t2 ..))
    fun x hx y hy hfree => ?_
  have hboth := bothPass_of_mem_leftRows ha hpre hop hopcode hmodrm hx hy
  exact Bool.false_ne_true (hfree.symm.trans hboth)

end Sys2Proof.Proofs
end

section
/-! PROOFS. Addressing (spec 43_modrm_sib.md R220 to R238): the descriptor of each addressing size by the names of its
registers, the fields of the ModRM and SIB bytes, and the SIB and displacement bytes that stand after the ModRM byte. -/

namespace Sys2Proof.Proofs

open Sys2Proof.Machine Sys2Proof.Laws

/-! ## The descriptor by address size -/

section
variable {b : Bitness} {p : Prefix} (n : Nat) (m : ModRM)

theorem resolveMem_a16 (h : p.addrSize b = .a16) :
    resolveMem b p n m =
      { segment := p.seg.getD (defaultSeg16 m), base := base16 m.mod m.rm, index := index16 m.rm, scale := 1,
        disp := dispValue .a16 n m.disp, dispSize := m.disp.size, addrSize := .a16 } := by
  simp only [resolveMem, h]

theorem resolveMem_of_ne_a16 (h : p.addrSize b ≠ .a16) :
    resolveMem b p n m =
      { segment := p.seg.getD (defaultSeg p m), base := baseReg b (p.addrSize b) p m,
        index := indexReg (p.addrSize b) p m, scale := scaleOf m, disp := dispValue (p.addrSize b) n m.disp,
        dispSize := m.disp.size, addrSize := p.addrSize b } := by
  cases ha : p.addrSize b with
  | a16 => exact absurd ha h
  | a32 => simp only [resolveMem, ha]
  | a64 => simp only [resolveMem, ha]

end

/-! ## 16-bit addressing -/

/-- Base and index by name, line by line of the table of R224. -/
theorem base16_index16_names (mod : BitVec 2) (rm : BitVec 3) :
    ((base16 mod rm).map registerName, (index16 rm).map registerName) =
      (([(some "BX", some "SI"), (some "BX", some "DI"), (some "BP", some "SI"), (some "BP", some "DI"),
         (some "SI", none), (some "DI", none), (if mod = 0 then none else some "BP", none),
         (some "BX", none)][rm.toNat]?).getD (none, none)) := by
  revert mod rm
  decide

/-- Of the 16-bit base registers only BP has the name BP. -/
theorem base16_eq_BP_iff (mod : BitVec 2) (rm : BitVec 3) :
    base16 mod rm = some (.r16 5) ↔ (base16 mod rm).map registerName = some "BP" := by
  revert mod rm
  decide

/-- The default segment of 16-bit addressing by the name of the base (R226). -/
theorem defaultSeg16_eq (m : ModRM) :
    defaultSeg16 m = if (base16 m.mod m.rm).map registerName = some "BP" then .SS else .DS := by
  simp only [defaultSeg16, base16_eq_BP_iff]

/-! ## 32- and 64-bit addressing -/

/-- The general registers of the addressing width by number (R39, R227). -/
def addressNames (a : AddrSize) : List String :=
  if a = .a64
  then ["RAX", "RCX", "RDX", "RBX", "RSP", "RBP", "RSI", "RDI", "R8", "R9", "R10", "R11", "R12", "R13", "R14", "R15"]
  else ["EAX", "ECX", "EDX", "EBX", "ESP", "EBP", "ESI", "EDI", "R8D", "R9D", "R10D", "R11D", "R12D", "R13D", "R14D",
    "R15D"]

theorem registerName_addrReg {a : AddrSize} (h : a ≠ .a16) (n : BitVec 4) :
    some (registerName (addrReg a n)) = (addressNames a)[n.toNat]? := by
  cases a with
  | a16 => exact absurd rfl h
  | a32 =>
    revert n
    decide
  | a64 =>
    revert n
    decide

/-- An extension bit counts 8 above a three-bit register field (R221, R227). -/
theorem extended_toNat (e : Bool) (f : BitVec 3) : (BitVec.ofBool e ++ f).toNat = 8 * e.toNat + f.toNat := by
  revert e f
  decide

/-- A base or index register by the name of its extended number. -/
theorem registerName_extended {a : AddrSize} (h : a ≠ .a16) (e : Bool) (f : BitVec 3) :
    some (registerName (addrReg a (BitVec.ofBool e ++ f))) = (addressNames a)[8 * e.toNat + f.toNat]? := by
  rw [registerName_addrReg h, extended_toNat]

/-- The names of the stack and frame pointers, whose default segment is SS (R235). -/
def stackNames : List (Option String) := [some "ESP", some "EBP", some "RSP", some "RBP"]

/-- They are the registers with field 4 or 5 and no extension. -/
theorem name_mem_stackNames_iff {a : AddrSize} (h : a ≠ .a16) (e : Bool) (f : BitVec 3) :
    some (registerName (addrReg a (BitVec.ofBool e ++ f))) ∈ stackNames ↔ (f = 4 ∨ f = 5) ∧ e = false := by
  cases a with
  | a16 => exact absurd rfl h
  | a32 =>
    revert e f
    decide
  | a64 =>
    revert e f
    decide

section
variable {b : Bitness} {a : AddrSize} {p : Prefix} {m : ModRM}

theorem noBase_iff : noBase m = true ↔ m.mod = 0 ∧ baseField m = 5 := by
  simp only [noBase, Bool.and_eq_true, decide_eq_true_eq]

theorem baseReg_of_base (h : ¬(m.mod = 0 ∧ baseField m = 5)) :
    baseReg b a p m = some (addrReg a (BitVec.ofBool p.b ++ baseField m)) := by
  rw [baseReg, if_neg (mt noBase_iff.mp h)]

/-- Without a SIB byte the form without a general base is RIP-relative in 64-bit mode (R228). -/
theorem baseReg_ip (hsib : m.sib = none) (h : m.mod = 0 ∧ baseField m = 5) :
    baseReg b a p m = if b = .b64 then some (if a = .a64 then .RIP else .EIP) else none := by
  rw [baseReg, if_pos (noBase_iff.mpr h), hsib]

theorem baseReg_sib_none {x : Sib} (hsib : m.sib = some x) (h : m.mod = 0 ∧ baseField m = 5) :
    baseReg b a p m = none := by
  rw [baseReg, if_pos (noBase_iff.mpr h), hsib]

/-- The form without a general base has no stack or frame pointer as its base. -/
theorem baseReg_not_mem_stackNames (h : m.mod = 0 ∧ baseField m = 5) :
    (baseReg b a p m).map registerName ∉ stackNames := by
  cases hsib : m.sib with
  | some x =>
    rw [baseReg_sib_none hsib h]
    decide
  | none =>
    rw [baseReg_ip hsib h]
    cases b <;> cases a <;> decide

/-- The default segment of 32- and 64-bit addressing by the name of the base (R235). -/
theorem defaultSeg_eq (ha : a ≠ .a16) :
    defaultSeg p m = if (baseReg b a p m).map registerName ∈ stackNames then .SS else .DS := by
  by_cases h : m.mod = 0 ∧ baseField m = 5
  · simp only [defaultSeg, noBase_iff.mpr h, if_neg (baseReg_not_mem_stackNames h), Bool.not_true, Bool.false_and,
      Bool.false_eq_true, if_false]
  · have hno : noBase m = false := Bool.eq_false_iff.mpr (mt noBase_iff.mp h)
    rw [baseReg_of_base h, Option.map_some, if_congr (name_mem_stackNames_iff ha ..) rfl rfl]
    simp only [defaultSeg, hno, Bool.not_false, Bool.true_and, Bool.and_eq_true, Bool.or_eq_true, decide_eq_true_eq,
      Bool.not_eq_true']

/-- The base of a form without a SIB byte by name (R227, R228). -/
theorem baseReg_name_without_sib (ha : a ≠ .a16) (hsib : m.sib = none) :
    (¬(m.mod = 0 ∧ m.rm = 5) →
        (baseReg b a p m).map registerName = (addressNames a)[8 * p.b.toNat + m.rm.toNat]?) ∧
      (m.mod = 0 ∧ m.rm = 5 →
        (baseReg b a p m).map registerName = if b = .b64 then some (if a = .a64 then "RIP" else "EIP") else none) := by
  have hfield : baseField m = m.rm := by rw [baseField, hsib]
  rw [← hfield]
  refine ⟨fun h => ?_, fun h => ?_⟩
  · rw [baseReg_of_base h, Option.map_some, registerName_extended ha]
  · rw [baseReg_ip hsib h]
    split_ifs <;> rfl

/-- The base of a form with a SIB byte by name (R231). -/
theorem baseReg_name_sib {x : Sib} (ha : a ≠ .a16) (hsib : m.sib = some x) :
    (baseReg b a p m).map registerName =
      if m.mod = 0 ∧ x.bs = 5 then none else (addressNames a)[8 * p.b.toNat + x.bs.toNat]? := by
  have hfield : baseField m = x.bs := by rw [baseField, hsib]
  rw [← hfield]
  split_ifs with h
  · rw [baseReg_sib_none hsib h]
    rfl
  · rw [baseReg_of_base h, Option.map_some, registerName_extended ha]

/-- The index of a form with a SIB byte by name: the number 4, extension included, is no index (R230). -/
theorem indexReg_name_sib {x : Sib} (ha : a ≠ .a16) (hsib : m.sib = some x) :
    (indexReg a p m).map registerName =
      if 8 * p.x.toNat + x.idx.toNat = 4 then none else (addressNames a)[8 * p.x.toNat + x.idx.toNat]? := by
  have hfour : BitVec.ofBool p.x ++ x.idx = 4#4 ↔ 8 * p.x.toNat + x.idx.toNat = 4 := by
    rw [← BitVec.toNat_inj, extended_toNat]
    rfl
  simp only [indexReg, hsib]
  split_ifs with h4 h h
  · rfl
  · exact absurd (hfour.mp h4) h
  · exact absurd (hfour.mpr h) h4
  · rw [Option.map_some, registerName_extended ha]

end

/-! ## The fields of the ModRM and SIB bytes -/

/-- The three fields of a ModRM or SIB byte from the top: two bits, three bits, three bits (R108, R109). -/
theorem byte_fields_eq (v : Byte) :
    v.extractLsb' 6 2 = BitVec.ofNat 2 (v.toNat / 64) ∧ v.extractLsb' 3 3 = BitVec.ofNat 3 (v.toNat / 8 % 8) ∧
      v.extractLsb' 0 3 = BitVec.ofNat 3 (v.toNat % 8) := by
  refine ⟨?_, extractLsb'_byte_eq v 3 3, low_field_eq v 3⟩
  have htop : v.toNat / 64 % 4 = v.toNat / 64 := by omega
  rw [extractLsb'_byte_eq]
  exact congrArg (BitVec.ofNat 2) htop

theorem splitModRM_eq (v : Byte) :
    splitModRM v =
      { mod := BitVec.ofNat 2 (v.toNat / 64), reg := BitVec.ofNat 3 (v.toNat / 8 % 8),
        rm := BitVec.ofNat 3 (v.toNat % 8), sib := none, disp := .none } := by
  obtain ⟨htop, hmid, hlow⟩ := byte_fields_eq v
  rw [splitModRM, htop, hmid, hlow]

theorem splitSib_eq (v : Byte) :
    splitSib v =
      { ss := BitVec.ofNat 2 (v.toNat / 64), idx := BitVec.ofNat 3 (v.toNat / 8 % 8),
        bs := BitVec.ofNat 3 (v.toNat % 8) } := by
  obtain ⟨htop, hmid, hlow⟩ := byte_fields_eq v
  rw [splitSib, htop, hmid, hlow]

/-! ## The displacement bytes -/

/-- Bytes of displacement in 16-bit addressing, as numbers of the ModRM fields (R225). -/
theorem dispLength_a16 (mod : BitVec 2) (rm : BitVec 3) (bs : Option (BitVec 3)) :
    dispLength .a16 mod rm bs =
      if mod.toNat = 0 ∧ rm.toNat = 6 then 2 else if mod.toNat = 1 then 1 else if mod.toNat = 2 then 2 else 0 := by
  simp only [dispLength]
  revert mod rm
  decide

/-- Bytes of displacement in 32- and 64-bit addressing: under mod 00 a base field 5, of ModRM or SIB, asks for four
(R233). -/
theorem dispLength_of_ne_a16 {a : AddrSize} (ha : a ≠ .a16) (mod : BitVec 2) (rm : BitVec 3) (bs : Option (BitVec 3)) :
    dispLength a mod rm bs =
      if mod.toNat = 0 ∧ (rm = 5 ∨ bs = some 5) then 4 else if mod.toNat = 1 then 1 else if mod.toNat = 2 then 4
      else 0 := by
  have hmod : mod = 0 ∨ mod = 1 ∨ mod = 2 ∨ mod = 3 := by
    revert mod
    decide
  cases a with
  | a16 => exact absurd rfl ha
  | a32 | a64 =>
    rcases hmod with rfl | rfl | rfl | rfl
    · simp [dispLength, ite_or]
    all_goals simp [dispLength]

theorem dispLength_without_sib {a : AddrSize} (ha : a ≠ .a16) (mod : BitVec 2) (rm : BitVec 3) :
    dispLength a mod rm none =
      if mod.toNat = 0 ∧ rm.toNat = 5 then 4 else if mod.toNat = 1 then 1 else if mod.toNat = 2 then 4 else 0 := by
  have hrm : rm = 5 ↔ rm.toNat = 5 := BitVec.toNat_inj.symm
  simp only [dispLength_of_ne_a16 ha, hrm, reduceCtorEq, or_false]

/-- With a SIB byte the low three bits of that byte are the base field (R229, R233). -/
theorem dispLength_with_sib {a : AddrSize} (ha : a ≠ .a16) {rm : BitVec 3} (hrm : rm.toNat = 4) (mod : BitVec 2)
    (s : Byte) :
    dispLength a mod rm (some (splitSib s).bs) =
      if mod.toNat = 0 ∧ s.toNat % 8 = 5 then 4 else if mod.toNat = 1 then 1 else if mod.toNat = 2 then 4 else 0 := by
  have hne : rm ≠ 5 := fun h => by rw [h] at hrm; cases hrm
  have hbs : (splitSib s).bs = 5 ↔ s.toNat % 8 = 5 := by
    rw [← BitVec.toNat_inj, splitSib, extractLsb'_byte_toNat, pow_zero, Nat.div_one]
    rfl
  simp only [dispLength_of_ne_a16 ha, hne, false_or, Option.some.injEq, hbs]

/-- The first byte of a little-endian field is its low byte (R61). -/
theorem leBits_cons (w : Nat) (v : Byte) (vs : List Byte) : leBits (w + 8) (v :: vs) = leBits w vs ++ v := by
  have hv : v.toNat < 256 := v.isLt
  apply BitVec.eq_of_toNat_eq
  rw [BitVec.toNat_append, ← Nat.shiftLeft_add_eq_or_of_lt v.isLt, Nat.shiftLeft_eq]
  simp only [leBits, BitVec.toNat_ofNat, leNat]
  have hlow : (v.toNat + 256 * leNat vs) % 256 = v.toNat := by omega
  have hhigh : (v.toNat + 256 * leNat vs) / 256 = leNat vs := by omega
  rw [Nat.pow_add', Nat.mod_mul, hlow, hhigh, Nat.add_comm, Nat.mul_comm]

theorem leBits_singleton (v : Byte) : leBits 8 [v] = v :=
  (leBits_cons 0 v []).trans (BitVec.zero_width_append ..)

theorem dispOf_one (x : Byte) : dispOf [x] = .d8 x :=
  congrArg Disp.d8 (leBits_singleton x)

theorem dispOf_two (x y : Byte) : dispOf [x, y] = .d16 (y ++ x) := by
  have hbits : leBits 16 [x, y] = y ++ x := by rw [leBits_cons 8, leBits_singleton]
  exact congrArg Disp.d16 hbits

theorem dispOf_four (x y z w : Byte) : dispOf [x, y, z, w] = .d32 (w ++ z ++ y ++ x) := by
  have hbits : leBits 32 [x, y, z, w] = w ++ z ++ y ++ x := by
    rw [leBits_cons 24, leBits_cons 16, leBits_cons 8, leBits_singleton]
  exact congrArg Disp.d32 hbits

/-- A function that reads the four lengths of a displacement field as R110 does is `dispOf` on them. -/
theorem eq_dispOf {field : List Byte → Disp} (h0 : field [] = .none) (h1 : ∀ x, field [x] = .d8 x)
    (h2 : ∀ x y, field [x, y] = .d16 (y ++ x)) (h4 : ∀ x y z w, field [x, y, z, w] = .d32 (w ++ z ++ y ++ x))
    {bs : List Byte} (hlen : bs.length ∈ [0, 1, 2, 4]) : field bs = dispOf bs := by
  match bs with
  | [] => exact h0
  | [x] => rw [h1, dispOf_one]
  | [x, y] => rw [h2, dispOf_two]
  | [_, _, _] => simp at hlen
  | [x, y, z, w] => rw [h4, dispOf_four]
  | _ :: _ :: _ :: _ :: _ :: _ => simp at hlen

/-! ## The bytes after the ModRM byte -/

/-- A SIB byte follows in 32- and 64-bit addressing, in a memory form with `rm` = 100 (R229). -/
theorem sibFollows_iff {a : AddrSize} {mod : BitVec 2} {rm : BitVec 3} :
    sibFollows a mod rm = true ↔ a ≠ .a16 ∧ mod.toNat ≠ 3 ∧ rm.toNat = 4 := by
  cases a
  all_goals
    revert mod rm
    decide

/-- No SIB byte in 16-bit addressing, in a register form, and under `rm` other than 100 (R225, R229). -/
theorem sibFollows_eq_false {a : AddrSize} {mod : BitVec 2} {rm : BitVec 3}
    (h : a = .a16 ∨ mod.toNat = 3 ∨ rm.toNat ≠ 4) : sibFollows a mod rm = false := by
  rw [Bool.eq_false_iff, ne_eq, sibFollows_iff]
  rintro ⟨ha, hmod, hrm⟩
  exact h.elim ha fun h => h.elim hmod (· hrm)

theorem holdsBytes_tail {b : Memory} {a : Nat} {v : Byte} {vs : List Byte} (h : HoldsBytes b a (v :: vs)) :
    HoldsBytes b (a + 1) vs := fun k hk => by
  rw [Nat.add_assoc, Nat.add_comm 1 k]
  exact h (k + 1) (Nat.succ_lt_succ hk)

section
variable {q : Source} {a : AddrSize} {t : Txn} {m : ModRM} {bs : List Byte}

theorem readDisp_of_holdsBytes (hlen : bs.length = dispLength a m.mod m.rm (m.sib.map (·.bs)))
    (hlim : t.pos + bs.length ≤ q.start + maxLen) (h : HoldsBytes q.buf t.pos bs) :
    readDisp q a m t = .ok ({ m with disp := dispOf bs }, { t with pos := t.pos + bs.length }) := by
  simp only [readDisp, ← hlen, readBytes_of_holdsBytes hlim h]

/-- Where no SIB byte follows, the displacement is read at `POS`. -/
theorem addressStage_without_sib (hm : t.modrm = some m) (hsib : m.sib = none) (hno : sibFollows a m.mod m.rm = false)
    (hlen : bs.length = dispLength a m.mod m.rm none) (hlim : t.pos + bs.length ≤ q.start + maxLen)
    (h : HoldsBytes q.buf t.pos bs) :
    addressStage q a t = .ok { t with pos := t.pos + bs.length, modrm := some { m with disp := dispOf bs } } := by
  have hread : readSib q a m t = .ok (m, t) := if_neg (Bool.eq_false_iff.mp hno)
  have hdisp := readDisp_of_holdsBytes (m := m) (by rw [hsib]; exact hlen) hlim h
  simp only [addressStage, hm, hread, hdisp]

/-- Where a SIB byte follows, it is read at `POS` and the displacement after it. -/
theorem addressStage_with_sib {s : Byte} (hm : t.modrm = some m) (hf : sibFollows a m.mod m.rm = true)
    (hlen : bs.length = dispLength a m.mod m.rm (some (splitSib s).bs))
    (hlim : t.pos + 1 + bs.length ≤ q.start + maxLen) (h : HoldsBytes q.buf t.pos (s :: bs)) :
    addressStage q a t = .ok { t with
      pos := t.pos + 1 + bs.length
      modrm := some { m with sib := some (splitSib s), disp := dispOf bs } } := by
  have hpeek : peek q t 0 = .ok s := peek_of_holdsBytes (by rw [List.length_cons]; omega) h rfl
  have hread : readSib q a m t = .ok ({ m with sib := some (splitSib s) }, advance t) := by
    simp only [readSib, hf, if_true, readByte_of_peek hpeek]
  have hdisp := readDisp_of_holdsBytes (t := advance t) (m := { m with sib := some (splitSib s) }) hlen hlim
    (holdsBytes_tail h)
  simp only [addressStage, hm, hread, hdisp]
  rfl

end

/-! ## The statements -/

/-- Settles O11: the descriptor is the 16-bit case of `resolveMem`, whose registers are the lines of the table, and the
reads are those of a form without a SIB byte. -/
theorem addressing16Table : Obligations.Addressing16Table := by
  unfold Obligations.Addressing16Table
  refine ⟨fun b p n m h => ?_, ?_⟩
  · rw [resolveMem_a16 n m h]
    refine ⟨base16_index16_names m.mod m.rm, rfl, ?_, rfl, rfl, ?_⟩
    · rw [defaultSeg16_eq]
      cases p.seg <;> rfl
    · cases m.disp <;> rfl
  · intro q t m bs field hm hsib hlen hlim hbs
    rw [← dispLength_a16 m.mod m.rm none] at hlen
    have hfield : field bs = dispOf bs :=
      eq_dispOf rfl (fun _ => rfl) (fun _ _ => rfl) (fun _ _ _ _ => rfl) (hlen ▸ dispLength_mem ..)
    rw [hfield]
    exact addressStage_without_sib hm hsib (sibFollows_eq_false (.inl rfl)) hlen hlim hbs

/-- Settles O12: the descriptor is the other case of `resolveMem`, its registers by name with and without a SIB byte, and
the reads are split by whether a SIB byte follows. -/
theorem addressing32And64 : Obligations.Addressing32And64 := by
  unfold Obligations.Addressing32And64
  refine ⟨fun b p n m h => ?_, splitModRM_eq, ?_⟩
  · rw [resolveMem_of_ne_a16 n m h]
    refine ⟨fun hsib => ?_, fun x hsib => ?_, ?_, rfl, rfl, ?_⟩
    · exact ⟨by rw [indexReg, hsib], by rw [scaleOf, hsib], baseReg_name_without_sib h hsib⟩
    · have hscale : scaleOf m = 1 <<< x.ss.toNat := by rw [scaleOf, hsib, Nat.one_shiftLeft]
      exact ⟨hscale, indexReg_name_sib h hsib, baseReg_name_sib h hsib⟩
    · rw [defaultSeg_eq (b := b) h]
      cases p.seg <;> rfl
    · cases m.disp <;> rfl
  · intro q t a m s bs field ha hm hsib
    have hfield : bs.length ∈ [0, 1, 2, 4] → field bs = dispOf bs :=
      eq_dispOf rfl (fun _ => rfl) (fun _ _ => rfl) fun _ _ _ _ => rfl
    refine ⟨fun hno hlen hlim hbs => ?_, fun hmod hrm hlen hlim hbs => ?_⟩
    · rw [← dispLength_without_sib ha] at hlen
      rw [hfield (hlen ▸ dispLength_mem ..)]
      exact addressStage_without_sib hm hsib (sibFollows_eq_false (.inr hno)) hlen hlim hbs
    · rw [← dispLength_with_sib ha hrm] at hlen
      rw [hfield (hlen ▸ dispLength_mem ..), ← splitSib_eq]
      exact addressStage_with_sib hm (sibFollows_iff.mpr ⟨ha, hmod, hrm⟩) hlen hlim hbs

end Sys2Proof.Proofs
end

section
/-! PROOFS. Every meaning is the assembler on the instruction's own row and fields, and the trailing field is as long as the
shapes of the row say (spec R260 to R271). -/

namespace Sys2Proof.Proofs

open Sys2Proof.Machine Sys2Proof.Laws

/-- Instruction by instruction, the fields build it again: an operand in the trailing field survives its bytes. -/
theorem build_fields (i : Instr) : Instr.build i.fields = i := by
  cases i
  all_goals
    simp only [Instr.fields, Instr.build, Prefix.asLegacy, Prefix.asVex, Prefix.asEvex, Parts.m, Option.getD_some,
      leBits_leBytes8, leBits_leBytes16, leBits_leBytes32, leBits_leBytes64, moffs_ofBytes_bytes]

theorem fields_space (i : Instr) : i.fields.pfx.space = i.row.space := by
  cases i <;> rfl

theorem exec_eq_assembleRow (i : Instr) (s : State) : exec i s = assembleRow i.row i.fields.toParts s := by
  conv_lhs => rw [← build_fields i]
  exact exec_build i.fields.toParts (fields_space i) s

/-- Bytes that stand in the buffer inside the length limit are read as the trailing field, as many as the row's shapes
take (R271). -/
theorem trailStage_of_holdsBytes {q : Source} {t : Txn} {a : AddrSize} {r : Row} {bs : List Byte}
    (hlen : bs.length = trailLength a r.ops) (hlim : t.pos + bs.length ≤ q.start + maxLen)
    (h : HoldsBytes q.buf t.pos bs) : trailStage q a r t = .ok { t with pos := t.pos + bs.length, trail := bs } := by
  simp only [trailStage, ← hlen, readBytes_of_holdsBytes hlim h]

/-- Settles O43: an instruction is built from its own fields, what a row decodes to runs as that row's assembly, and the
trailing field is as long as the shapes say. -/
theorem meaningsFollowTheTemplateWalk : Obligations.MeaningsFollowTheTemplateWalk := by
  unfold Obligations.MeaningsFollowTheTemplateWalk
  refine ⟨exec_eq_assembleRow, fun r f i s hdec hspace => ?_, fun a n w sx c x => ⟨rfl, rfl, rfl, rfl, rfl, ?_⟩,
    fun q t a r bs hlen hlim hbs => trailStage_of_holdsBytes hlen hlim hbs⟩
  · rw [← runDecoded_decodedOf hspace, hdec, runDecoded_instr]
  · simp [shapeBytes]

end Sys2Proof.Proofs
end

section
/-! PROOFS. The response when LOCK is legal (spec R272 to R278): the LOCK check and the flags of a row's record, and that the
assembler, and so every meaning, responds with that record. -/

namespace Sys2Proof.Proofs

open Sys2Proof.Machine Sys2Proof.Laws

theorem hasRepFlag_iff (y : Body) (p : Prefix) :
    hasRepFlag y p = true ↔ p.rep = some .F3 ∧ p.space = .legacy ∧ y.mpAny = true := by
  simp [hasRepFlag, and_assoc]

theorem hasRepneFlag_iff (y : Body) (p : Prefix) :
    hasRepneFlag y p = true ↔ p.rep = some .F2 ∧ p.space = .legacy ∧ y.mpAny = true := by
  simp [hasRepneFlag, and_assoc]

/-- Operand 0 is in memory when the row's first shape becomes Memory (R274). -/
theorem rowDestInMemory_eq (r : Row) (f : Parts) : rowDestInMemory r f = r.ops.head?.any (yieldsMemory f.m) := by
  unfold rowDestInMemory
  cases r.ops with
  | nil => rfl
  | cons s ss => cases s <;> rfl

section
variable (s : State) (q : Request) (t : Txn) (r : Row) (f : Parts)

theorem isMemory_headD_rowRecord :
    ((rowRecord s q t r f).operands.headD .none).isMemory = rowDestInMemory r f := by
  rw [rowRecord_operands, rowDestInMemory_eq, rowOperands]
  cases r.ops with
  | nil => rfl
  | cons x xs =>
    rw [trailSlices, List.map_cons, operandSlots_headD, isMemory_shapeOperand]
    rfl

/-- The LOCK check on the record of a row (R274). -/
theorem lockRefused_rowRecord : lockRefused (Row.body r) f.pfx (rowRecord s q t r f) =
    (f.pfx.lock && !(r.lockable && rowDestInMemory r f)) := by
  rw [lockRefused, isMemory_headD_rowRecord]
  rfl

theorem rowRecord_hasRep : (rowRecord s q t r f).hasRep = true ↔
    f.pfx.rep = some .F3 ∧ f.pfx.space = .legacy ∧ r.mp = none := by
  rw [← Option.isNone_iff_eq_none]
  exact hasRepFlag_iff (Row.body r) f.pfx

theorem rowRecord_hasRepne : (rowRecord s q t r f).hasRepne = true ↔
    f.pfx.rep = some .F2 ∧ f.pfx.space = .legacy ∧ r.mp = none := by
  rw [← Option.isNone_iff_eq_none]
  exact hasRepneFlag_iff (Row.body r) f.pfx

end

section
variable {s : State} {q : Request} {t : Txn} {r : Row} {f : Parts}

/-- With a legal LOCK the assembler responds with the row's record (R274, R278). -/
theorem assembleRow_of_lockLegal (hin : InTxn s q t)
    (hlock : f.pfx.lock = true → r.lockable = true ∧ rowDestInMemory r f = true) :
    assembleRow r f s = .next (done s (.ok (rowRecord s q t r f))) := by
  have hpass : lockRefused (Row.body r) f.pfx (rowRecord s q t r f) = false := by
    rw [lockRefused_rowRecord]
    cases hl : f.pfx.lock with
    | false => rfl
    | true => simp [hlock hl]
  rw [assembleRow_inTxn hin, rowResponse, hpass]
  rfl

theorem assembleRow_completes (hin : InTxn s q t) (hspace : f.pfx.space = r.space)
    (hlock : f.pfx.lock = true → r.lockable = true ∧ rowDestInMemory r f = true) :
    ∃ out, assembleRow r f s = .next (done s (.ok out)) ∧ out.code = r.code ∧ out.byteLength = t.pos - q.start ∧
      out.opCount = r.ops.length ∧ out.operands.length = 4 ∧
      out.hasLock = f.pfx.lock ∧ out.segmentOverride = f.pfx.seg ∧
      (out.hasRep = true ↔ f.pfx.rep = some .F3 ∧ r.space = .legacy ∧ r.mp = none) ∧
      (out.hasRepne = true ↔ f.pfx.rep = some .F2 ∧ r.space = .legacy ∧ r.mp = none) := by
  refine ⟨rowRecord s q t r f, assembleRow_of_lockLegal hin hlock, rfl, rfl, rowRecord_opCount .., operandSlots_length _,
    rfl, rfl, ?_, ?_⟩
  · rw [← hspace]
    exact rowRecord_hasRep ..
  · rw [← hspace]
    exact rowRecord_hasRepne ..

end

/-- Settles O44: the assembler completes on every row, and a meaning is the assembler on the row of its code. -/
theorem everyInstructionCompletes : Obligations.EveryInstructionCompletes := by
  unfold Obligations.EveryInstructionCompletes
  refine ⟨fun i s q t hin hlegal => ?_, fun r f s q t hin hspace hlock => assembleRow_completes hin hspace hlock⟩
  have hcode : i.row.code = .ref i.code := row_code i.code
  rw [exec_eq_assembleRow, ← hcode]
  exact assembleRow_completes hin (fields_space i) hlegal

end Sys2Proof.Proofs
end

section
/-! PROOFS. The size of a memory operand (spec R270): the sizes that an admissible row has, what each shape takes of them, and
the memory operands of a row's record. -/

namespace Sys2Proof.Proofs

open Sys2Proof.Machine Sys2Proof.Laws

theorem rowAdmissible_row (c : Code) : rowAdmissible c.row = true := by
  cases c <;> rfl

/-- A row of R113 to R116 with a direct address is Legacy (R447 to R454). -/
theorem code_moffs_space {c : Code} (h : Shape.moffs ∈ c.row.ops) : c.row.space = .legacy := by
  have hc : c ∈ moffsCodes := by
    simpa [h] using code_moffs c
  simp only [moffsCodes, List.mem_cons, List.not_mem_nil, or_false] at hc
  rcases hc with rfl | rfl | rfl | rfl | rfl | rfl | rfl | rfl <;> rfl

/-- Conditions (c) and (e) of R203: a row with a memory operand has `mem`, and `mem_b` when it permits broadcast. -/
theorem rowAdmissible_sizes {r : Row} (h : rowAdmissible r = true) :
    (∀ x ∈ r.ops, x.memLike = true → r.mem.isSome = true) ∧ (r.bcst ≠ 0 → r.memB.isSome = true) := by
  simp only [rowAdmissible, Bool.and_eq_true, decide_eq_true_eq] at h
  obtain ⟨⟨⟨⟨⟨⟨⟨⟨⟨-, hmem⟩, -⟩, -⟩, -⟩, -⟩, hmemB⟩, -⟩, -⟩, -⟩ := h
  refine ⟨fun x hx hlike => ?_, fun hb => ?_⟩
  · have hany : r.ops.any Shape.memLike = true := List.any_eq_true.mpr ⟨x, hx, hlike⟩
    simpa [hany] using hmem
  · rw [beq_iff_eq.mp hmemB]
    exact bne_iff_ne.mpr hb

/-- A broadcast is in effect only under EVEX (R28, R293). -/
theorem bcstOn_iff (p : Prefix) (m : ModRM) :
    bcstOn p m = true ↔ p.space = .evex ∧ p.bcst = true ∧ m.mod ≠ 3 := by
  cases p <;> simp [bcstOn, Prefix.space, Prefix.bcst]

/-- The size by R270, where the row has the sizes that it needs. -/
theorem some_rowMemorySize {r : Row} {p : Prefix} (hmem : r.mem.isSome = true)
    (hmemB : p.bcst = true → r.memB.isSome = true) (m : ModRM) :
    some (rowMemorySize r p m) = if p.space = .evex ∧ p.bcst = true ∧ m.mod ≠ 3 then r.memB else r.mem := by
  obtain ⟨z, hz⟩ := Option.isSome_iff_exists.mp hmem
  by_cases hon : bcstOn p m = true
  · obtain ⟨hspace, hb, hmod⟩ := (bcstOn_iff p m).mp hon
    obtain ⟨zB, hzB⟩ := Option.isSome_iff_exists.mp (hmemB hb)
    rw [if_pos ⟨hspace, hb, hmod⟩, rowMemorySize, if_pos hon, hzB, Option.getD_some]
  · rw [if_neg (mt (bcstOn_iff p m).mpr hon), rowMemorySize, if_neg hon, hz, Option.getD_some]

theorem mem_of_memory_mem_operandSlots {ops : List Operand} {d : MemDesc} {z : MemorySize}
    (h : Operand.memory d z ∈ operandSlots ops) : Operand.memory d z ∈ ops := by
  have happ := List.mem_of_mem_take h
  simpa using happ

/-- A shape that yields Memory is a direct address of the row's size, or has the size by R270. -/
theorem shapeOperand_memory {e : Env} {r : Row} {low : BitVec 3} {x : Shape} {bs : List Byte} {d : MemDesc}
    {z : MemorySize} (h : shapeOperand e r low x bs = .memory d z) :
    x.memLike = true ∧ z = if x = .moffs then r.mem.getD .Unknown else rowMemorySize r e.pfx e.modrm := by
  have hlike : x.memLike = true := by
    apply memLike_of_yieldsMemory (m := e.modrm)
    rw [← isMemory_shapeOperand e r low x bs, h]
    rfl
  refine ⟨hlike, ?_⟩
  cases x with
  | rm c =>
    by_cases hm : e.modrm.mod = 3
    · rw [shapeOperand, env_rm_of_reg hm] at h
      cases h
    · rw [shapeOperand, env_rm_of_mem hm] at h
      cases h
      rfl
  | mem | moffs => cases h; rfl
  | _ => cases hlike

/-- A row's record has no memory operand but what its shapes yield, of the size by R270. -/
theorem memory_size_rowRecord {s : State} {q : Request} {t : Txn} {r : Row} {f : Parts} (ha : rowAdmissible r = true)
    (hspace : f.pfx.space = r.space) (hmoffs : r.space = .evex → Shape.moffs ∉ r.ops)
    (hb : f.pfx.bcst = true → r.bcst ≠ 0) {d : MemDesc} {z : MemorySize}
    (h : Operand.memory d z ∈ (rowRecord s q t r f).operands) :
    some z = if r.space = .evex ∧ f.pfx.bcst = true ∧ f.m.mod ≠ 3 then r.memB else r.mem := by
  obtain ⟨hmem, hmemB⟩ := rowAdmissible_sizes ha
  rw [rowRecord_operands] at h
  obtain ⟨x, hx, hop⟩ := List.mem_map.mp (mem_of_memory_mem_operandSlots h)
  have hxops : x.1 ∈ r.ops := by
    rw [← trailSlices_shapes (f.pfx.addrSize q.bitness) f.trail r.ops]
    exact List.mem_map_of_mem hx
  obtain ⟨hlike, rfl⟩ := shapeOperand_memory hop
  by_cases hdirect : x.1 = .moffs
  · have hnot : r.space ≠ .evex := fun he => hmoffs he (hdirect ▸ hxops)
    obtain ⟨z, hz⟩ := Option.isSome_iff_exists.mp (hmem _ hxops hlike)
    rw [if_pos hdirect, if_neg fun ⟨he, _⟩ => hnot he, hz, Option.getD_some]
  · rw [if_neg hdirect, ← hspace]
    exact some_rowMemorySize (hmem _ hxops hlike) (fun h => hmemB (hb h)) f.m

/-- An assembly that responds `Ok` responds with the row's record. -/
theorem assembleRow_ok {r : Row} {f : Parts} {s s' : State} {out : Instruction} (h : assembleRow r f s = .next s')
    (hout : s'.response = some (.ok out)) : ∃ q t, out = rowRecord s q t r f := by
  rcases answer_cases (Row.body r) f.pfx f.modrm (fun e => rowOperands e r f) s with ⟨q, t, hin, -⟩ | ⟨-, e⟩
  · rw [assembleRow_inTxn hin] at h
    cases h
    exact ⟨q, t, rowResponse_ok (Option.some.inj hout)⟩
  · rw [assembleRow, e] at h
    cases h

/-- Settles O46: a response is the record of a row, whose memory operands have the size by R270; the rows of the reference
content are admissible, and none under EVEX has a direct address. -/
theorem memorySizeOfTheOperand : Obligations.MemorySizeOfTheOperand := by
  unfold Obligations.MemorySizeOfTheOperand
  constructor
  · intro i s s' out hexec hout hb d z hmem
    rw [exec_eq_assembleRow] at hexec
    obtain ⟨q, t, rfl⟩ := assembleRow_ok hexec hout
    have hmoffs : i.row.space = .evex → Shape.moffs ∉ i.row.ops := fun he hm => by
      rw [Instr.row, code_moffs_space hm] at he
      cases he
    exact memory_size_rowRecord (rowAdmissible_row i.code) (fields_space i) hmoffs hb hmem
  · intro r f s s' out ha hspace hmoffs hrow hout hb d z hmem
    obtain ⟨q, t, rfl⟩ := assembleRow_ok hrow hout
    exact memory_size_rowRecord ha hspace hmoffs hb hmem

end Sys2Proof.Proofs
end

section
/-! PROOFS. The vector-extension fields (spec R290 to R298): opmask, zeroing, rounding control and SAE as the payload and the
row's permission give them, and what the feature checks let pass. -/

namespace Sys2Proof.Proofs

open Sys2Proof.Machine Sys2Proof.Laws

theorem erSaeOn_iff {e : EvexPrefix} {m : ModRM} : erSaeOn e m = true ↔ e.bcst = true ∧ m.mod = 3 := by
  rw [erSaeOn, Bool.and_eq_true, decide_eq_true_eq]

/-! ## The fields under EVEX -/

/-- `RC` (R295) is the list of the four modes, read at `L'L`. -/
theorem roundingOf_eq_getElem (ll : BitVec 2) :
    roundingOf ll =
      ([.RoundToNearest, .RoundDown, .RoundUp, .RoundTowardZero][ll.toNat]?).getD .RoundToNearest := by
  revert ll
  decide

/-- The rounding control of the assembler (R294, R295). -/
theorem roundingControl_eq_evexRounding (ersae : ErSae) (e : EvexPrefix) (m : ModRM) :
    (if erSaeOn e m && decide (ersae = .er) then some (roundingOf e.ll) else none) = evexRounding ersae e m := by
  simp only [evexRounding, Bool.and_eq_true, erSaeOn_iff, decide_eq_true_eq, roundingOf_eq_getElem, and_assoc]

/-- The SAE flag of the assembler (R294). -/
theorem suppressAllExceptions_eq_evexSae (params : Params) (ersae : ErSae) (e : EvexPrefix) (m : ModRM) :
    (erSaeOn e m && (params.erSetsSae || decide (ersae = .sae))) = evexSae params ersae e m := by
  rw [Bool.eq_iff_iff, evexSae]
  simp only [Bool.and_eq_true, Bool.or_eq_true, erSaeOn_iff, decide_eq_true_eq, and_assoc]

/-- `op_mask` (R291). -/
def opmaskOf (aaa : BitVec 3) : Option (BitVec 3) := if aaa = 0 then none else some aaa

@[simp] theorem opmaskOf_zero : opmaskOf 0 = none := rfl

theorem opmaskOf_of_ne_zero {aaa : BitVec 3} (h : aaa ≠ 0) : opmaskOf aaa = some aaa := if_neg h

theorem opmaskOf_ne_none_iff {aaa : BitVec 3} : opmaskOf aaa ≠ none ↔ aaa ≠ 0 := by
  simp [opmaskOf]

/-- K0 is never an opmask (R291). -/
theorem opmaskOf_ne_some_zero (aaa : BitVec 3) : opmaskOf aaa ≠ some 0 := by
  by_cases h : aaa = 0
  · rw [h, opmaskOf_zero]
    exact (Option.some_ne_none 0).symm
  · rw [opmaskOf_of_ne_zero h]
    exact fun hsome => h (Option.some.inj hsome)

/-- The four fields of an EVEX result (R291 to R295). -/
theorem vecExt_evex (params : Params) (y : Body) (m : ModRM) (e : EvexPrefix) :
    vecExt params y m (.evex e) =
      some { opMask := opmaskOf e.aaa
             zeroingMasking := e.z
             roundingControl := evexRounding y.ersae e m
             suppressAllExceptions := evexSae params y.ersae e m } := by
  rw [vecExt, roundingControl_eq_evexRounding, suppressAllExceptions_eq_evexSae, opmaskOf]

/-! ## What the feature checks let pass -/

/-- After the feature checks on an EVEX row, opmask and zeroing stand only where the row permits them, and zeroing only with
an opmask (R199). -/
theorem opmask_and_zeroing_of_featuresOk {ps : PrefixState} {m : ModRM} {r : Row} (hs : ps.space = .evex)
    (h : featuresOk ps m r = true) : (ps.aaa ≠ 0 → r.k = true) ∧ (ps.z = true → r.zeroing = true ∧ ps.aaa ≠ 0) := by
  have hwf := wfFeatures_of_featuresOk h
  rw [psPrefix_evex hs] at hwf
  obtain ⟨-, hk, hz, -⟩ := vecExt_permitted hwf (vecExt_evex Params.reference (Row.body r) m _)
  exact ⟨fun ha => hk (opmaskOf_ne_none_iff.mpr ha), fun hzm => (hz hzm).imp_right opmaskOf_ne_none_iff.mp⟩

/-! ## The obligations -/

/-- Settles O59: the opmask by the value of `aaa`, the constants under VEX, and what the feature checks leave. -/
theorem opmaskZeroingAndVexDefaults : Obligations.OpmaskZeroingAndVexDefaults := by
  unfold Obligations.OpmaskZeroingAndVexDefaults
  refine ⟨fun prm y m => ⟨fun p => rfl, fun e => ⟨_, vecExt_evex prm y m e, ?_⟩⟩,
    fun ps m r hs h => opmask_and_zeroing_of_featuresOk hs h⟩
  refine ⟨fun h0 => ?_, fun hne => ?_, opmaskOf_ne_some_zero e.aaa, rfl⟩
  · have haaa : e.aaa = 0 := BitVec.eq_of_toNat_eq h0
    exact (congrArg opmaskOf haaa).trans opmaskOf_zero
  · have haaa : e.aaa ≠ 0 := fun h => hne (congrArg BitVec.toNat h)
    exact opmaskOf_of_ne_zero haaa

/-- Settles O60: under EVEX the two fields are the ones that `L'L`, `b`, `mod` and the row's permission give. -/
theorem roundingAndSaeOfEvexResults : Obligations.RoundingAndSaeOfEvexResults := by
  unfold Obligations.RoundingAndSaeOfEvexResults
  exact fun prm y m => ⟨fun p => rfl, fun e => ⟨_, vecExt_evex prm y m e, rfl, rfl⟩⟩

end Sys2Proof.Proofs
end

section
/-! PROOFS. The failures of the decoder (spec R150, R331, R334): which kinds each stage can raise, that EndOfInput comes
from a `Peek` at a position within the length limit, and that LOCK is checked by operand assembly alone. -/

namespace Sys2Proof.Proofs

open Sys2Proof.Machine Sys2Proof.Laws

/-! ## An escape as its bytes and what they make of `PS` -/

/-- What the bytes of an escape form make of `PS` (R166 to R168); none where a reserved bit stands in them. -/
def payloadState (e : Escape) (bs : List Byte) (ps : PrefixState) : Option PrefixState :=
  match e, bs with
  | .vex2, [_, p0] => some (vex2Payload p0 ps)
  | .vex3, [_, p0, p1] => (mapOf (p0.extractLsb' 0 5).toNat).map fun map => vex3Payload p0 p1 map ps
  | .evex, [_, p0, p1, p2] =>
    if p0.extractLsb' 2 2 = 0#2 ∧ p1.getLsbD 2 = true then
      (mapOf (p0.extractLsb' 0 2).toNat).map fun map => evexPayload p0 p1 p2 map ps
    else none
  | _, _ => none

/-- All bytes of the form are read, then tested (R169). -/
theorem readEscape_of_readBytes_ok {q : Source} {e : Escape} {t t1 : Txn} {bs : List Byte}
    (h : readBytes q (escapeLength e) t = .ok (bs, t1)) :
    readEscape q e t =
      (payloadState e bs t1.ps).elim (.error .InvalidOpcode) fun ps => .ok { t1 with ps := ps } := by
  obtain ⟨hlen, -⟩ := readBytes_ok h
  cases e with
  | vex2 =>
    obtain ⟨e0, p0, rfl⟩ := List.length_eq_two.mp hlen
    simp only [escapeLength] at h
    simp only [readEscape, h]
    rfl
  | vex3 =>
    obtain ⟨e0, p0, p1, rfl⟩ := List.length_eq_three.mp hlen
    simp only [escapeLength] at h
    simp only [readEscape, h, payloadState]
    cases mapOf (p0.extractLsb' 0 5).toNat <;> rfl
  | evex =>
    obtain ⟨e0, p0, p1, p2, rfl⟩ : ∃ e0 p0 p1 p2, bs = [e0, p0, p1, p2] := List.length_eq_four.mp hlen
    simp only [escapeLength] at h
    simp only [readEscape, h, payloadState]
    by_cases hzero : p0.extractLsb' 2 2 = 0#2
    · cases mapOf (p0.extractLsb' 0 2).toNat with
      | none => simp [hzero]
      | some map => cases hone : p1.getLsbD 2 <;> simp [hzero]
    · simp [hzero]

/-! ## The kinds that the stages raise -/

/-- A failure that the decoder may raise: never the LOCK check's, and EndOfInput only where the buffer ends before the
length limit (R331, R334). -/
structure DecodeFailure (q : Source) (k : FailureKind) : Prop where
  ne_lock : k ≠ .InvalidLockUsage
  end_of_input : k = .EndOfInput → q.buf.len < q.start + maxLen

/-- Whatever failure the result is, the decoder may raise it. -/
def FailsInDecode {α : Type} (q : Source) (x : Except FailureKind α) : Prop := ∀ k, x = .error k → DecodeFailure q k

section
variable {α : Type} {q : Source}

theorem failsInDecode_ok (a : α) : FailsInDecode q (.ok a : Except FailureKind α) := nofun

theorem failsInDecode_error {k : FailureKind} (h : DecodeFailure q k) :
    FailsInDecode q (.error k : Except FailureKind α) := by
  rintro _ ⟨⟩
  exact h

/-- A stage passes on the failure of one of its parts. -/
theorem FailsInDecode.passedOn {β : Type} {x : Except FailureKind β} {k : FailureKind} (hx : FailsInDecode q x)
    (h : x = .error k) : FailsInDecode q (.error k : Except FailureKind α) := failsInDecode_error (hx k h)

theorem failsInDecode_invalidOpcode : FailsInDecode q (.error .InvalidOpcode : Except FailureKind α) :=
  failsInDecode_error ⟨nofun, nofun⟩

theorem failsInDecode_invalidMode : FailsInDecode q (.error .InvalidModeForInstruction : Except FailureKind α) :=
  failsInDecode_error ⟨nofun, nofun⟩

end

section
variable (q : Source) (t : Txn)

/-- `Peek` tests the length limit first, so where it finds the end of the buffer, that end is before the limit (R153). -/
theorem peek_fails (k : Nat) : FailsInDecode q (peek q t k) := by
  rcases peek_cases q t k with ⟨-, e⟩ | ⟨hlim, hread, e⟩ | ⟨v, -, -, e⟩
  · rw [e]
    exact failsInDecode_invalidOpcode
  · rw [e]
    have hend : q.buf.len ≤ t.pos + k := not_lt.mp fun hlt => by simp [Memory.read, hlt] at hread
    exact failsInDecode_error ⟨nofun, fun _ => hend.trans_lt hlim⟩
  · rw [e]
    exact failsInDecode_ok v

theorem readByte_fails : FailsInDecode q (readByte q t) := fun k h => peek_fails q t 0 k (readByte_error.mp h)

theorem readBytes_fails (n : Nat) : FailsInDecode q (readBytes q n t) := by
  induction n generalizing t with
  | zero => exact failsInDecode_ok _
  | succ n ih =>
    unfold readBytes
    split
    · next h => exact (readByte_fails q t).passedOn h
    · rename_i v t1 _
      split
      · next h => exact (ih t1).passedOn h
      · exact failsInDecode_ok _

theorem scanPrefixes_fails (fuel : Nat) : FailsInDecode q (scanPrefixes q fuel t) := by
  induction fuel generalizing t with
  | zero => exact failsInDecode_invalidOpcode
  | succ fuel ih =>
    unfold scanPrefixes
    split
    · next h => exact (peek_fails q t 0).passedOn h
    · split
      · exact failsInDecode_ok t
      · exact ih _

theorem escapeTest_fails : FailsInDecode q (escapeTest q t) := by
  unfold escapeTest
  split
  · next h => exact (peek_fails q t 0).passedOn h
  · split
    · exact failsInDecode_ok _
    · split
      · exact failsInDecode_ok _
      · split
        · next h => exact (peek_fails q t 1).passedOn h
        · exact failsInDecode_ok _

theorem readEscape_fails (e : Escape) : FailsInDecode q (readEscape q e t) := by
  cases hread : readBytes q (escapeLength e) t with
  | error k =>
    rw [readEscape_of_readBytes_error hread]
    exact (readBytes_fails q t _).passedOn hread
  | ok x =>
    obtain ⟨bs, t1⟩ := x
    rw [readEscape_of_readBytes_ok hread]
    cases payloadState e bs t1.ps with
    | none => exact failsInDecode_invalidOpcode
    | some ps => exact failsInDecode_ok _

theorem legacyBeforeEscape_fails (ps0 ps : PrefixState) : FailsInDecode q (legacyBeforeEscape q ps0 ps) := by
  unfold legacyBeforeEscape
  split
  · split
    · exact failsInDecode_invalidOpcode
    · exact failsInDecode_ok _
  · exact failsInDecode_ok _

theorem extensionBits_fails (ps : PrefixState) : FailsInDecode q (extensionBits q ps) := by
  unfold extensionBits
  split
  · split
    · exact failsInDecode_invalidMode
    · exact failsInDecode_ok _
  · exact failsInDecode_ok _

theorem escapeStage_fails (e : Escape) : FailsInDecode q (escapeStage q e t) := by
  unfold escapeStage
  split
  · next h => exact (readEscape_fails q t e).passedOn h
  · split
    · next h => exact (legacyBeforeEscape_fails q _ _).passedOn h
    · split
      · next h => exact (extensionBits_fails q _).passedOn h
      · exact failsInDecode_ok _

theorem prefixStage_fails : FailsInDecode q (prefixStage q t) := by
  unfold prefixStage
  split
  · next h => exact (scanPrefixes_fails q t _).passedOn h
  · rename_i t1 _
    split
    · next h => exact (escapeTest_fails q t1).passedOn h
    · exact failsInDecode_ok _
    · rename_i e _
      exact escapeStage_fails q t1 e

theorem readOpcodeIn_fails (map : OpMap) : FailsInDecode q (readOpcodeIn q map t) := by
  unfold readOpcodeIn
  split
  · next h => exact (readByte_fails q t).passedOn h
  · exact failsInDecode_ok _

theorem readOpcode_fails : FailsInDecode q (readOpcode q t) := by
  unfold readOpcode
  split
  · next h => exact (readByte_fails q t).passedOn h
  · rename_i v t1 _
    split_ifs
    · exact failsInDecode_ok _
    · exact failsInDecode_ok _
    · split
      · next h => exact (readByte_fails q t1).passedOn h
      · rename_i v2 t2 _
        split_ifs
        · exact readOpcodeIn_fails q t2 .m0F38
        · exact readOpcodeIn_fails q t2 .m0F3A
        · exact failsInDecode_ok _

theorem readModRM_fails (cand : List Row) : FailsInDecode q (readModRM q cand t) := by
  unfold readModRM
  split
  · split
    · next h => exact (readByte_fails q t).passedOn h
    · exact failsInDecode_ok _
  · exact failsInDecode_ok t

theorem selectRow_fails (b : Bitness) (ps : PrefixState) (osz : OpSize) (m : ModRM) (cand : List Row) :
    FailsInDecode q (selectRow b ps osz m cand) := by
  unfold selectRow
  split
  · exact failsInDecode_invalidOpcode
  · split
    · exact failsInDecode_invalidMode
    · exact failsInDecode_ok _

theorem dispatchStage_fails : FailsInDecode q (dispatchStage q t) := by
  unfold dispatchStage
  split
  · next h => exact (readOpcode_fails q t).passedOn h
  · rename_i t1 _
    dsimp only
    split
    · exact failsInDecode_invalidOpcode
    · split
      · next h => exact (readModRM_fails q t1 _).passedOn h
      · split
        · next h => exact (selectRow_fails q _ _ _ _ _).passedOn h
        · split
          · exact failsInDecode_ok _
          · exact failsInDecode_invalidOpcode

theorem readSib_fails (a : AddrSize) (m : ModRM) : FailsInDecode q (readSib q a m t) := by
  unfold readSib
  split
  · split
    · next h => exact (readByte_fails q t).passedOn h
    · exact failsInDecode_ok _
  · exact failsInDecode_ok _

theorem readDisp_fails (a : AddrSize) (m : ModRM) : FailsInDecode q (readDisp q a m t) := by
  unfold readDisp
  split
  · next h => exact (readBytes_fails q t _).passedOn h
  · exact failsInDecode_ok _

theorem addressStage_fails (a : AddrSize) : FailsInDecode q (addressStage q a t) := by
  unfold addressStage
  split
  · exact failsInDecode_ok t
  · rename_i m _
    split
    · next h => exact (readSib_fails q t a m).passedOn h
    · rename_i m1 t1 _
      split
      · next h => exact (readDisp_fails q t1 a m1).passedOn h
      · exact failsInDecode_ok _

theorem trailStage_fails (a : AddrSize) (r : Row) : FailsInDecode q (trailStage q a r t) := by
  unfold trailStage
  split
  · next h => exact (readBytes_fails q t _).passedOn h
  · exact failsInDecode_ok _

/-- The decoder fails as one of its four stages does (R339). -/
theorem decode_fails : FailsInDecode q (decode q) := by
  intro k h
  rcases decode_error h with hpre | ⟨t1, -, hdis | ⟨r, t2, -, haddr | ⟨t3, -, htrail⟩⟩⟩
  · exact prefixStage_fails q _ k hpre
  · exact dispatchStage_fails q t1 k hdis
  · exact addressStage_fails q t2 _ k haddr
  · exact trailStage_fails q t3 _ r k htrail

end

/-- Settles O27: EndOfInput is a failure of the decoder only where the buffer ends before the length limit. -/
theorem endOfInputOnlyAtBufferEnd : Obligations.EndOfInputOnlyAtBufferEnd := by
  unfold Obligations.EndOfInputOnlyAtBufferEnd
  exact fun q h => (decode_fails q _ h).end_of_input rfl

/-! ## The LOCK check -/

/-- The assembler takes the failure exit exactly when the LOCK check fails (R274, R334). -/
theorem assembleRow_lock_iff {s : State} {q : Request} {t : Txn} (hin : InTxn s q t) (r : Row) (f : Parts) :
    assembleRow r f s = .next (done s (.fail .InvalidLockUsage)) ↔
      f.pfx.lock = true ∧ ¬(r.lockable = true ∧ rowDestInMemory r f = true) := by
  have hcheck : lockRefused (Row.body r) f.pfx (rowRecord s q t r f) = true ↔
      f.pfx.lock = true ∧ ¬(r.lockable = true ∧ rowDestInMemory r f = true) := by
    simp only [lockRefused_rowRecord, Bool.and_eq_true, Bool.not_eq_true', Bool.eq_false_iff, ne_eq]
  rw [assembleRow_inTxn hin, ← hcheck, rowResponse]
  split
  · rename_i hrefused
    exact ⟨fun _ => hrefused, fun _ => rfl⟩
  · rename_i hpass
    exact ⟨nofun, fun hrefused => absurd hrefused hpass⟩

/-- Settles O28: the decoder never raises the kind, and a meaning is the assembler on the row of its code. -/
theorem decodeNeverFailsOnLock : Obligations.DecodeNeverFailsOnLock := by
  unfold Obligations.DecodeNeverFailsOnLock
  refine ⟨fun q h => (decode_fails q _ h).ne_lock rfl, fun i s q t hin => ⟨?_, assembleRow_lock_iff hin⟩⟩
  rw [exec_eq_assembleRow]
  exact assembleRow_lock_iff hin i.row i.fields.toParts

/-! ## The idle block -/

/-- Settles O32: without a waiting request no request is pending. -/
theorem idleBlockDoesNothing : Obligations.IdleBlockDoesNothing := by
  unfold Obligations.IdleBlockDoesNothing
  intro s hidle
  refine step_idle fun q ⟨hq, hr⟩ => ?_
  rcases hidle with hnone | hsome
  · cases hq.symm.trans hnone
  · exact hsome hr

end Sys2Proof.Proofs
end

section
/-! PROOFS. The response depends on the window only (spec R351): the decoder does on any buffer what it does on the
fifteen bytes from `START` alone, moved to 0, and operand assembly reads `POS` only relative to `START`. -/

namespace Sys2Proof.Proofs

open Sys2Proof.Machine Sys2Proof.Laws

/-! ## The window -/

/-- The bytes that stand in a buffer from an index on, at most `n`. -/
def bytesFrom (b : Memory) : Nat → Nat → List Byte
  | 0, _ => []
  | n + 1, a => match b.read a with
    | none => []
    | some v => v :: bytesFrom b n (a + 1)

/-- Past the first index without a byte there is none (R60). -/
theorem read_none_of_le {b : Memory} {a c : Nat} (h : b.read a = none) (hac : a ≤ c) : b.read c = none := by
  cases hc : b.read c with
  | none => rfl
  | some v =>
    obtain ⟨w, hw⟩ := exists_read_of_lt_len (hac.trans_lt (lt_len_of_read hc))
    cases h.symm.trans hw

theorem bytesFrom_getElem? {b : Memory} {n a k : Nat} (hk : k < n) : (bytesFrom b n a)[k]? = b.read (a + k) := by
  induction n generalizing a k with
  | zero => omega
  | succ n ih =>
    unfold bytesFrom
    cases hread : b.read a with
    | none => exact (read_none_of_le hread (Nat.le_add_right a k)).symm
    | some v =>
      cases k with
      | zero => exact hread.symm
      | succ k =>
        rw [List.getElem?_cons_succ, ih (Nat.lt_of_succ_lt_succ hk), Nat.add_assoc, Nat.add_comm 1 k]

theorem bytesFrom_congr {b b' : Memory} {n a a' : Nat} (h : ∀ k, k < n → b.read (a + k) = b'.read (a' + k)) :
    bytesFrom b n a = bytesFrom b' n a' := by
  induction n generalizing a a' with
  | zero => rfl
  | succ n ih =>
    have hhead : b.read a = b'.read a' := h 0 (Nat.succ_pos n)
    have htail : bytesFrom b n (a + 1) = bytesFrom b' n (a' + 1) := ih fun k hk => by
      simpa only [Nat.add_assoc, Nat.add_comm 1 k] using h (k + 1) (Nat.succ_lt_succ hk)
    simp only [bytesFrom, hhead, htail]

/-- The same request on the bytes within the length limit alone, with `START` 0. -/
def windowOf (q : Source) : Source := { q with buf := Memory.ofBytes (bytesFrom q.buf maxLen q.start), start := 0 }

theorem windowOf_read (q : Source) {k : Nat} (hk : k < maxLen) :
    (windowOf q).buf.read k = q.buf.read (q.start + k) := by
  rw [windowOf, ofBytes_read, bytesFrom_getElem? hk]

/-- The transaction `d` bytes further on. -/
def movedBy (d : Nat) (t : Txn) : Txn := { t with pos := d + t.pos }

@[simp] theorem movedBy_pos (d : Nat) (t : Txn) : (movedBy d t).pos = d + t.pos := rfl
@[simp] theorem movedBy_ps (d : Nat) (t : Txn) : (movedBy d t).ps = t.ps := rfl
@[simp] theorem movedBy_opcode (d : Nat) (t : Txn) : (movedBy d t).opcode = t.opcode := rfl
@[simp] theorem movedBy_modrm (d : Nat) (t : Txn) : (movedBy d t).modrm = t.modrm := rfl

/-! ## Each stage at `START` and on the window

Each equation says that the stage, begun `START` bytes further on, answers what it answers on the window, with the
transaction it leaves moved by `START`. -/

section
variable (q : Source) (t : Txn)

theorem peek_movedBy (k : Nat) : peek q (movedBy q.start t) k = peek (windowOf q) t k := by
  by_cases hlim : t.pos + k < maxLen
  · have hq : ¬q.start + maxLen ≤ q.start + t.pos + k := by omega
    have hw : ¬0 + maxLen ≤ t.pos + k := by omega
    have hread : q.buf.read (q.start + t.pos + k) = (windowOf q).buf.read (t.pos + k) := by
      rw [windowOf_read q hlim, Nat.add_assoc]
    rw [peek, peek, movedBy_pos, if_neg hq, hread]
    exact (if_neg hw).symm
  · have hq : q.start + maxLen ≤ q.start + t.pos + k := by omega
    have hw : 0 + maxLen ≤ t.pos + k := by omega
    rw [peek, peek, movedBy_pos, if_pos hq]
    exact (if_pos hw).symm

theorem readByte_movedBy :
    readByte q (movedBy q.start t) = (readByte (windowOf q) t).map (Prod.map id (movedBy q.start)) := by
  rw [readByte, readByte, peek_movedBy]
  cases peek (windowOf q) t 0 <;> rfl

theorem readBytes_movedBy (n : Nat) :
    readBytes q n (movedBy q.start t) = (readBytes (windowOf q) n t).map (Prod.map id (movedBy q.start)) := by
  induction n generalizing t with
  | zero => rfl
  | succ n ih =>
    rw [readBytes, readBytes, readByte_movedBy]
    cases readByte (windowOf q) t with
    | error k => rfl
    | ok x =>
      simp only [Except.map, Prod.map, ih]
      cases readBytes (windowOf q) n x.2 <;> rfl

theorem scanPrefixes_movedBy (fuel : Nat) :
    scanPrefixes q fuel (movedBy q.start t) = (scanPrefixes (windowOf q) fuel t).map (movedBy q.start) := by
  induction fuel generalizing t with
  | zero => rfl
  | succ fuel ih =>
    rw [scanPrefixes, scanPrefixes, peek_movedBy]
    cases peek (windowOf q) t 0 with
    | error k => rfl
    | ok v =>
      have hbyte : scanByte q.bitness v (movedBy q.start t).ps = scanByte (windowOf q).bitness v t.ps := rfl
      simp only [hbyte]
      cases scanByte (windowOf q).bitness v t.ps with
      | none => rfl
      | some ps => exact ih { advance t with ps := countPrefix ps }

theorem escapeTest_movedBy : escapeTest q (movedBy q.start t) = escapeTest (windowOf q) t := by
  simp only [escapeTest, peek_movedBy]
  rfl

theorem readEscape_movedBy (e : Escape) :
    readEscape q e (movedBy q.start t) = (readEscape (windowOf q) e t).map (movedBy q.start) := by
  cases hread : readBytes (windowOf q) (escapeLength e) t with
  | error k =>
    have hmoved : readBytes q (escapeLength e) (movedBy q.start t) = .error k := by rw [readBytes_movedBy, hread]; rfl
    rw [readEscape_of_readBytes_error hread, readEscape_of_readBytes_error hmoved]
    rfl
  | ok x =>
    obtain ⟨bs, t1⟩ := x
    have hmoved : readBytes q (escapeLength e) (movedBy q.start t) = .ok (bs, movedBy q.start t1) := by
      rw [readBytes_movedBy, hread]; rfl
    rw [readEscape_of_readBytes_ok hread, readEscape_of_readBytes_ok hmoved, movedBy_ps]
    cases payloadState e bs t1.ps <;> rfl

theorem escapeStage_movedBy (e : Escape) :
    escapeStage q e (movedBy q.start t) = (escapeStage (windowOf q) e t).map (movedBy q.start) := by
  have hbefore : legacyBeforeEscape q = legacyBeforeEscape (windowOf q) := rfl
  have hbits : extensionBits q = extensionBits (windowOf q) := rfl
  rw [escapeStage, escapeStage, readEscape_movedBy, hbefore, hbits]
  cases readEscape (windowOf q) e t with
  | error k => rfl
  | ok t1 =>
    simp only [Except.map, movedBy_ps]
    cases legacyBeforeEscape (windowOf q) t.ps t1.ps with
    | error k => rfl
    | ok ps2 =>
      dsimp only
      cases extensionBits (windowOf q) ps2 <;> rfl

theorem prefixStage_movedBy :
    prefixStage q (movedBy q.start t) = (prefixStage (windowOf q) t).map (movedBy q.start) := by
  rw [prefixStage, prefixStage, scanPrefixes_movedBy]
  cases scanPrefixes (windowOf q) (maxLen + 1) t with
  | error k => rfl
  | ok t1 =>
    simp only [Except.map, escapeTest_movedBy]
    cases escapeTest (windowOf q) t1 with
    | error k => rfl
    | ok o =>
      cases o with
      | none => rfl
      | some e => exact escapeStage_movedBy q t1 e

theorem readOpcodeIn_movedBy (map : OpMap) :
    readOpcodeIn q map (movedBy q.start t) = (readOpcodeIn (windowOf q) map t).map (movedBy q.start) := by
  rw [readOpcodeIn, readOpcodeIn, readByte_movedBy]
  cases readByte (windowOf q) t <;> rfl

theorem readOpcode_movedBy :
    readOpcode q (movedBy q.start t) = (readOpcode (windowOf q) t).map (movedBy q.start) := by
  rw [readOpcode, readOpcode, readByte_movedBy]
  cases readByte (windowOf q) t with
  | error k => rfl
  | ok x =>
    obtain ⟨v, t1⟩ := x
    simp only [Except.map, Prod.map, id, movedBy_ps, readByte_movedBy]
    split_ifs
    · rfl
    · rfl
    · cases readByte (windowOf q) t1 with
      | error k => rfl
      | ok y =>
        obtain ⟨v2, t2⟩ := y
        simp only [readOpcodeIn_movedBy]
        split_ifs
        all_goals rfl

theorem readModRM_movedBy (cand : List Row) :
    readModRM q cand (movedBy q.start t) = (readModRM (windowOf q) cand t).map (movedBy q.start) := by
  rw [readModRM, readModRM, readByte_movedBy]
  split
  · cases readByte (windowOf q) t <;> rfl
  · rfl

theorem dispatchStage_movedBy :
    dispatchStage q (movedBy q.start t) = (dispatchStage (windowOf q) t).map (Prod.map id (movedBy q.start)) := by
  rw [dispatchStage, dispatchStage, readOpcode_movedBy]
  cases readOpcode (windowOf q) t with
  | error k => rfl
  | ok t1 =>
    have hparams : q.params = (windowOf q).params := rfl
    have hbitness : q.bitness = (windowOf q).bitness := rfl
    simp only [Except.map, movedBy_ps, movedBy_opcode, hparams, hbitness, readModRM_movedBy]
    split
    · rfl
    · cases readModRM (windowOf q) (candidates (windowOf q).params.table t1.ps (t1.opcode.getD 0)) t1 with
      | error k => rfl
      | ok t2 =>
        simp only [movedBy_ps, movedBy_modrm]
        split
        · rfl
        · rename_i r _
          by_cases hok : featuresOk t2.ps (t2.modrm.getD ModRM.zero) r = true
          all_goals
            simp only [hok]
            rfl

theorem readSib_movedBy (a : AddrSize) (m : ModRM) :
    readSib q a m (movedBy q.start t) = (readSib (windowOf q) a m t).map (Prod.map id (movedBy q.start)) := by
  rw [readSib, readSib, readByte_movedBy]
  split
  · cases readByte (windowOf q) t <;> rfl
  · rfl

theorem readDisp_movedBy (a : AddrSize) (m : ModRM) :
    readDisp q a m (movedBy q.start t) = (readDisp (windowOf q) a m t).map (Prod.map id (movedBy q.start)) := by
  rw [readDisp, readDisp, readBytes_movedBy]
  cases readBytes (windowOf q) (dispLength a m.mod m.rm (m.sib.map (·.bs))) t <;> rfl

theorem addressStage_movedBy (a : AddrSize) :
    addressStage q a (movedBy q.start t) = (addressStage (windowOf q) a t).map (movedBy q.start) := by
  rw [addressStage, addressStage, movedBy_modrm]
  cases t.modrm with
  | none => rfl
  | some m =>
    simp only [readSib_movedBy]
    cases readSib (windowOf q) a m t with
    | error k => rfl
    | ok x =>
      simp only [Except.map, Prod.map, id, readDisp_movedBy]
      cases readDisp (windowOf q) a x.1 x.2 <;> rfl

theorem trailStage_movedBy (a : AddrSize) (r : Row) :
    trailStage q a r (movedBy q.start t) = (trailStage (windowOf q) a r t).map (movedBy q.start) := by
  rw [trailStage, trailStage, readBytes_movedBy]
  cases readBytes (windowOf q) (trailLength a r.ops) t <;> rfl

end

/-- The decoder answers what it answers on the window, with `POS` moved by `START`. -/
theorem decode_eq_window (q : Source) : decode q = (decode (windowOf q)).map (Prod.map id (movedBy q.start)) := by
  have hinit : Txn.initial q.start = movedBy q.start (Txn.initial (windowOf q).start) := rfl
  have hbitness : q.bitness = (windowOf q).bitness := rfl
  rw [decode, decode, hinit, prefixStage_movedBy]
  cases prefixStage (windowOf q) (Txn.initial (windowOf q).start) with
  | error k => rfl
  | ok t1 =>
    simp only [Except.map, dispatchStage_movedBy]
    cases dispatchStage (windowOf q) t1 with
    | error k => rfl
    | ok x =>
      obtain ⟨r, t2⟩ := x
      simp only [Prod.map, id, movedBy_ps, hbitness, addressStage_movedBy]
      cases addressStage (windowOf q) (addrSize (windowOf q).bitness t2.ps.has67) t2 with
      | error k => rfl
      | ok t3 =>
        simp only [Except.map, trailStage_movedBy]
        cases trailStage (windowOf q) (addrSize (windowOf q).bitness t2.ps.has67) r t3 <;> rfl

/-! ## The response -/

/-- Whatever was decoded, running it is operand assembly with a body, a prefix part and operands of its own. -/
theorem runDecoded_eq_answer (d : Decoded) : ∃ y p m ops, ∀ s, runDecoded d s = answer y p m ops s := by
  cases d with
  | instr i => exact exec_eq_answer i
  | row r f => exact ⟨_, _, _, _, fun _ => rfl⟩

/-- The response of operand assembly in a transaction (R274, R278). -/
def answerResponse (s : State) (q : Request) (t : Txn) (y : Body) (p : Prefix) (m : Option ModRM)
    (ops : Env → List Operand) : Response :=
  if lockRefused y p (answerRecord s q t y p m ops) then .fail .InvalidLockUsage else .ok (answerRecord s q t y p m ops)

/-- Operand assembly reads no more of the state, the request and the transaction than the parameters, IP, the mode and how
far `POS` stands from `START`. -/
theorem answerResponse_congr {s1 s2 : State} {q1 q2 : Request} {t1 t2 : Txn} (hparams : s1.params = s2.params)
    (hip : q1.ip = q2.ip) (hbitness : q1.bitness = q2.bitness) (hlength : t1.pos - q1.start = t2.pos - q2.start)
    (y : Body) (p : Prefix) (m : Option ModRM) (ops : Env → List Operand) :
    answerResponse s1 q1 t1 y p m ops = answerResponse s2 q2 t2 y p m ops := by
  have hrecord : answerRecord s1 q1 t1 y p m ops = answerRecord s2 q2 t2 y p m ops := by
    simp only [answerRecord, envOf, hparams, hip, hbitness, hlength]
  rw [answerResponse, answerResponse, hrecord]

/-- A step on a waiting request whose decode succeeds has the response of operand assembly. -/
theorem step_of_answer {s : State} {q : Request} {d : Decoded} {t : Txn} {y : Body} {p : Prefix} {m : Option ModRM}
    {ops : Env → List Operand} (hp : Pending s q) (hdec : decode (s.source q) = .ok (d, t))
    (hrun : ∀ s, runDecoded d s = answer y p m ops s) : step s = .next (done s (answerResponse s q t y p m ops)) := by
  have hin : InTxn (s.withTxn t) q t := ⟨hp.1, rfl⟩
  rw [step_of_decode_ok hp hdec, hrun, answer_inTxn hin]
  rfl

/-- Settles O39: the two requests have one window, so their decodes answer the same up to `POS` moved by each `START`,
and operand assembly makes one response of it. -/
theorem windowDeterminesTheResponse : Obligations.WindowDeterminesTheResponse := by
  unfold Obligations.WindowDeterminesTheResponse
  intro s1 s2 q1 q2 hp1 hp2 hparams hip hbitness hbytes
  have hwindow : windowOf (s2.source q2) = windowOf (s1.source q1) := by
    simp only [windowOf, State.source, hparams, hbitness, bytesFrom_congr hbytes, maxLen]
  cases hdec : decode (windowOf (s1.source q1)) with
  | error k =>
    have hdec1 : decode (s1.source q1) = .error k := by rw [decode_eq_window, hdec]; rfl
    have hdec2 : decode (s2.source q2) = .error k := by rw [decode_eq_window, hwindow, hdec]; rfl
    exact ⟨.fail k, step_of_decode_error hp1 hdec1, step_of_decode_error hp2 hdec2⟩
  | ok x =>
    obtain ⟨d, t⟩ := x
    have hdec1 : decode (s1.source q1) = .ok (d, movedBy q1.start t) := by rw [decode_eq_window, hdec]; rfl
    have hdec2 : decode (s2.source q2) = .ok (d, movedBy q2.start t) := by rw [decode_eq_window, hwindow, hdec]; rfl
    have hlength : (movedBy q1.start t).pos - q1.start = (movedBy q2.start t).pos - q2.start := by
      simp only [movedBy_pos, Nat.add_sub_cancel_left]
    obtain ⟨y, p, m, ops, hrun⟩ := runDecoded_eq_answer d
    refine ⟨_, step_of_answer hp1 hdec1 hrun, ?_⟩
    rw [answerResponse_congr hparams hip hbitness hlength]
    exact step_of_answer hp2 hdec2 hrun

end Sys2Proof.Proofs
end

section
/-! PROOFS. Bytes after the buffer's end (spec R331, R351, R374): on a buffer that holds the same bytes and more, every
stage of the decoder does the same, but where it fails with EndOfInput. -/

namespace Sys2Proof.Proofs

open Sys2Proof.Machine Sys2Proof.Laws

/-! ## The same but for EndOfInput -/

/-- The second result is the first, unless the first is the failure EndOfInput. -/
def SameUnlessEnd {α : Type} (x y : Except FailureKind α) : Prop := x = .error .EndOfInput ∨ y = x

theorem sameUnlessEnd_refl {α : Type} (x : Except FailureKind α) : SameUnlessEnd x x := .inr rfl

/-- `q'` asks for the same as `q`, and has every byte of `q` at the same index. -/
structure Longer (q q' : Source) : Prop where
  start : q'.start = q.start
  bitness : q'.bitness = q.bitness
  params : q'.params = q.params
  read : ∀ a, a < q.buf.len → q'.buf.read a = q.buf.read a

/-! ## Each stage on a longer buffer

In each proof the part that is read first either ends at the buffer's end, and the stage with it, or has one result on
both buffers. -/

section
variable {q q' : Source} (hq : Longer q q') (t : Txn)
include hq

theorem peek_longer (k : Nat) : SameUnlessEnd (peek q t k) (peek q' t k) := by
  rcases peek_cases q t k with ⟨hlim, h⟩ | ⟨-, -, h⟩ | ⟨v, hlim, hread, h⟩
  · right
    rw [h, peek, hq.start, if_pos hlim]
  · exact .inl h
  · right
    rw [h, peek_ok, hq.start, hq.read _ (lt_len_of_read hread)]
    exact ⟨hlim, hread⟩

theorem readByte_longer : SameUnlessEnd (readByte q t) (readByte q' t) := by
  unfold readByte
  rcases peek_longer hq t 0 with h | h
  · exact .inl (by rw [h])
  · exact .inr (by rw [h])

theorem readBytes_longer (n : Nat) : SameUnlessEnd (readBytes q n t) (readBytes q' n t) := by
  induction n generalizing t with
  | zero => exact sameUnlessEnd_refl _
  | succ n ih =>
    unfold readBytes
    rcases readByte_longer hq t with h | h
    · exact .inl (by rw [h])
    · rw [h]
      cases readByte q t with
      | error k => exact sameUnlessEnd_refl _
      | ok x =>
        rcases ih x.2 with h | h
        · exact .inl (by simp only [h])
        · exact .inr (by simp only [h])

theorem scanPrefixes_longer (fuel : Nat) : SameUnlessEnd (scanPrefixes q fuel t) (scanPrefixes q' fuel t) := by
  induction fuel generalizing t with
  | zero => exact sameUnlessEnd_refl _
  | succ fuel ih =>
    unfold scanPrefixes
    rcases peek_longer hq t 0 with h | h
    · exact .inl (by rw [h])
    · rw [h, hq.bitness]
      cases peek q t 0 with
      | error k => exact sameUnlessEnd_refl _
      | ok v =>
        dsimp only
        cases scanByte q.bitness v t.ps with
        | none => exact sameUnlessEnd_refl _
        | some ps => exact ih _

theorem escapeTest_longer : SameUnlessEnd (escapeTest q t) (escapeTest q' t) := by
  unfold escapeTest
  rcases peek_longer hq t 0 with h | h
  · exact .inl (by rw [h])
  · rw [h, hq.bitness]
    split
    · exact sameUnlessEnd_refl _
    · split
      · exact sameUnlessEnd_refl _
      · split
        · exact sameUnlessEnd_refl _
        · rcases peek_longer hq t 1 with h1 | h1
          · exact .inl (by rw [h1])
          · exact .inr (by rw [h1])

theorem readEscape_longer (e : Escape) : SameUnlessEnd (readEscape q e t) (readEscape q' e t) := by
  rcases readBytes_longer hq t (escapeLength e) with h | h
  · exact .inl (readEscape_of_readBytes_error h)
  · right
    cases hread : readBytes q (escapeLength e) t with
    | error k => rw [readEscape_of_readBytes_error hread, readEscape_of_readBytes_error (h.trans hread)]
    | ok x => rw [readEscape_of_readBytes_ok hread, readEscape_of_readBytes_ok (h.trans hread)]

theorem escapeStage_longer (e : Escape) : SameUnlessEnd (escapeStage q e t) (escapeStage q' e t) := by
  have hbefore : legacyBeforeEscape q' = legacyBeforeEscape q := by
    funext ps0 ps
    simp only [legacyBeforeEscape, hq.params]
  have hbits : extensionBits q' = extensionBits q := by
    funext ps
    simp only [extensionBits, hq.params, hq.bitness]
  unfold escapeStage
  rw [hbefore, hbits]
  rcases readEscape_longer hq t e with h | h
  · exact .inl (by rw [h])
  · exact .inr (by rw [h])

theorem prefixStage_longer : SameUnlessEnd (prefixStage q t) (prefixStage q' t) := by
  unfold prefixStage
  rcases scanPrefixes_longer hq t (maxLen + 1) with h | h
  · exact .inl (by rw [h])
  · rw [h]
    cases scanPrefixes q (maxLen + 1) t with
    | error k => exact sameUnlessEnd_refl _
    | ok t1 =>
      dsimp only
      rcases escapeTest_longer hq t1 with h | h
      · exact .inl (by rw [h])
      · rw [h]
        split
        · exact sameUnlessEnd_refl _
        · exact sameUnlessEnd_refl _
        · rename_i e _
          exact escapeStage_longer hq t1 e

theorem readOpcodeIn_longer (map : OpMap) : SameUnlessEnd (readOpcodeIn q map t) (readOpcodeIn q' map t) := by
  unfold readOpcodeIn
  rcases readByte_longer hq t with h | h
  · exact .inl (by rw [h])
  · exact .inr (by rw [h])

theorem readOpcode_longer : SameUnlessEnd (readOpcode q t) (readOpcode q' t) := by
  unfold readOpcode
  rcases readByte_longer hq t with h | h
  · exact .inl (by rw [h])
  · rw [h]
    cases readByte q t with
    | error k => exact sameUnlessEnd_refl _
    | ok x =>
      dsimp only
      split_ifs
      · exact sameUnlessEnd_refl _
      · exact sameUnlessEnd_refl _
      · rcases readByte_longer hq x.2 with h1 | h1
        · exact .inl (by rw [h1])
        · rw [h1]
          cases readByte q x.2 with
          | error k => exact sameUnlessEnd_refl _
          | ok y =>
            dsimp only
            split_ifs
            · exact readOpcodeIn_longer hq y.2 .m0F38
            · exact readOpcodeIn_longer hq y.2 .m0F3A
            · exact sameUnlessEnd_refl _

theorem readModRM_longer (cand : List Row) : SameUnlessEnd (readModRM q cand t) (readModRM q' cand t) := by
  unfold readModRM
  split
  · rcases readByte_longer hq t with h | h
    · exact .inl (by rw [h])
    · exact .inr (by rw [h])
  · exact sameUnlessEnd_refl _

theorem dispatchStage_longer : SameUnlessEnd (dispatchStage q t) (dispatchStage q' t) := by
  unfold dispatchStage
  rcases readOpcode_longer hq t with h | h
  · exact .inl (by rw [h])
  · rw [h, hq.params, hq.bitness]
    cases readOpcode q t with
    | error k => exact sameUnlessEnd_refl _
    | ok t1 =>
      dsimp only
      split
      · exact sameUnlessEnd_refl _
      · rcases readModRM_longer hq t1 (candidates q.params.table t1.ps (t1.opcode.getD 0)) with h1 | h1
        · exact .inl (by rw [h1])
        · exact .inr (by rw [h1])

theorem readSib_longer (a : AddrSize) (m : ModRM) : SameUnlessEnd (readSib q a m t) (readSib q' a m t) := by
  unfold readSib
  split
  · rcases readByte_longer hq t with h | h
    · exact .inl (by rw [h])
    · exact .inr (by rw [h])
  · exact sameUnlessEnd_refl _

theorem readDisp_longer (a : AddrSize) (m : ModRM) : SameUnlessEnd (readDisp q a m t) (readDisp q' a m t) := by
  unfold readDisp
  rcases readBytes_longer hq t (dispLength a m.mod m.rm (m.sib.map (·.bs))) with h | h
  · exact .inl (by rw [h])
  · exact .inr (by rw [h])

theorem addressStage_longer (a : AddrSize) : SameUnlessEnd (addressStage q a t) (addressStage q' a t) := by
  unfold addressStage
  cases t.modrm with
  | none => exact sameUnlessEnd_refl _
  | some m =>
    dsimp only
    rcases readSib_longer hq t a m with h | h
    · exact .inl (by rw [h])
    · rw [h]
      cases readSib q a m t with
      | error k => exact sameUnlessEnd_refl _
      | ok x =>
        dsimp only
        rcases readDisp_longer hq x.2 a x.1 with h1 | h1
        · exact .inl (by rw [h1])
        · exact .inr (by rw [h1])

theorem trailStage_longer (a : AddrSize) (r : Row) : SameUnlessEnd (trailStage q a r t) (trailStage q' a r t) := by
  unfold trailStage
  rcases readBytes_longer hq t (trailLength a r.ops) with h | h
  · exact .inl (by rw [h])
  · exact .inr (by rw [h])

/-- The decoder goes through its four stages (R339), each of them the same but for EndOfInput. -/
theorem decode_longer : SameUnlessEnd (decode q) (decode q') := by
  unfold decode
  rw [hq.start, hq.bitness]
  rcases prefixStage_longer hq (Txn.initial q.start) with h | h
  · exact .inl (by rw [h])
  · rw [h]
    cases prefixStage q (Txn.initial q.start) with
    | error k => exact sameUnlessEnd_refl _
    | ok t1 =>
      dsimp only
      rcases dispatchStage_longer hq t1 with h | h
      · exact .inl (by rw [h])
      · rw [h]
        cases dispatchStage q t1 with
        | error k => exact sameUnlessEnd_refl _
        | ok x =>
          dsimp only
          rcases addressStage_longer hq x.2 (addrSize q.bitness x.2.ps.has67) with h | h
          · exact .inl (by rw [h])
          · rw [h]
            cases addressStage q (addrSize q.bitness x.2.ps.has67) x.2 with
            | error k => exact sameUnlessEnd_refl _
            | ok t3 =>
              dsimp only
              rcases trailStage_longer hq t3 (addrSize q.bitness x.2.ps.has67) x.1 with h | h
              · exact .inl (by rw [h])
              · exact .inr (by rw [h])

end

/-- Settles O29: a request on the longer buffer differs from the first one in nothing that the decoder reads before the
end of the first buffer. -/
theorem appendedBytesKeepTheAnswer : Obligations.AppendedBytesKeepTheAnswer := by
  unfold Obligations.AppendedBytesKeepTheAnswer
  intro q b hread hend
  have hlonger : Longer q { q with buf := b } := ⟨rfl, rfl, rfl, hread⟩
  exact (decode_longer hlonger).resolve_left hend

end Sys2Proof.Proofs
end

section
/-! PROOFS. The bytes ahead of `POS`, and the bytes that the encoder writes (spec R90 to R111, R150 to R154): how many
they are, and that each field splits back out of its byte. -/

namespace Sys2Proof.Proofs

open Sys2Proof.Machine Sys2Proof.Laws

/-! ## The bytes ahead -/

theorem holdsBytes_append {b : Memory} {a : Nat} {us vs : List Byte} :
    HoldsBytes b a (us ++ vs) ↔ HoldsBytes b a us ∧ HoldsBytes b (a + us.length) vs := by
  constructor
  · intro h
    refine ⟨fun k hk => ?_, fun k hk => ?_⟩
    · rw [h k (by rw [List.length_append]; omega), List.getElem?_append_left hk]
    · rw [Nat.add_assoc, h (us.length + k) (by rw [List.length_append]; omega),
        List.getElem?_append_right (Nat.le_add_right ..), Nat.add_sub_cancel_left]
  · rintro ⟨hus, hvs⟩ k hk
    rw [List.length_append] at hk
    by_cases hlt : k < us.length
    · rw [hus k hlt, List.getElem?_append_left hlt]
    · have hread := hvs (k - us.length) (by omega)
      rwa [Nat.add_assoc, Nat.add_sub_cancel' (not_lt.mp hlt), ← List.getElem?_append_right (not_lt.mp hlt)] at hread

/-- The byte string stands in the buffer from `POS` on, inside the length limit (R150, R153). -/
structure Ahead (q : Source) (t : Txn) (bs : List Byte) : Prop where
  limit : t.pos + bs.length ≤ q.start + maxLen
  holds : HoldsBytes q.buf t.pos bs

section
variable {q : Source} {t t' : Txn} {us vs : List Byte} {v : Byte}

theorem Ahead.left (h : Ahead q t (us ++ vs)) : Ahead q t us :=
  ⟨by have := h.limit; rw [List.length_append] at this; omega, (holdsBytes_append.mp h.holds).1⟩

theorem Ahead.right (h : Ahead q t (us ++ vs)) (hpos : t'.pos = t.pos + us.length) : Ahead q t' vs :=
  ⟨by have := h.limit; rw [List.length_append] at this; omega, hpos ▸ (holdsBytes_append.mp h.holds).2⟩

theorem Ahead.tail (h : Ahead q t (v :: vs)) (hpos : t'.pos = t.pos + 1) : Ahead q t' vs := Ahead.right (us := [v]) h hpos

theorem Ahead.peek {k : Nat} (h : Ahead q t vs) (hk : vs[k]? = some v) : peek q t k = .ok v :=
  peek_of_holdsBytes h.limit h.holds hk

theorem Ahead.readBytes {n : Nat} (h : Ahead q t vs) (hn : vs.length = n) :
    readBytes q n t = .ok (vs, { t with pos := t.pos + n }) := by
  subst hn
  exact readBytes_of_holdsBytes h.limit h.holds

end

/-! ## Fields of a byte -/

theorem splitModRM_append (mod : BitVec 2) (reg rm : BitVec 3) :
    splitModRM (mod ++ reg ++ rm) = { mod := mod, reg := reg, rm := rm, sib := none, disp := .none } := by
  have hfields : ∀ (mod : BitVec 2) (reg rm : BitVec 3), (mod ++ reg ++ rm).extractLsb' 6 2 = mod ∧
      (mod ++ reg ++ rm).extractLsb' 3 3 = reg ∧ (mod ++ reg ++ rm).extractLsb' 0 3 = rm := by decide
  obtain ⟨hmod, hreg, hrm⟩ := hfields mod reg rm
  rw [splitModRM, hmod, hreg, hrm]

theorem splitSib_append (s : Sib) : splitSib (s.ss ++ s.idx ++ s.bs) = s := by
  obtain ⟨ss, idx, bs⟩ := s
  have hsplit := splitModRM_append ss idx bs
  simp only [splitModRM, ModRM.mk.injEq] at hsplit
  obtain ⟨hss, hidx, hbs, -⟩ := hsplit
  rw [splitSib, hss, hidx, hbs]

theorem dispOf_dispBytes (d : Disp) : dispOf (dispBytes d) = d := by
  cases d with
  | none => rfl
  | d8 d => rw [dispBytes, dispOf_one]
  | d16 d => exact congrArg Disp.d16 (leBits_leBytes16 d)
  | d32 d => exact congrArg Disp.d32 (leBits_leBytes32 d)

/-- A register number below the mask F8h comes back out of the opcode byte, which the opcode test accepts (R107, R193). -/
theorem opcodeByte_and_mask {r : Row} (hop : r.op &&& r.opmask = r.op) (low : BitVec 3) :
    opcodeByte r low &&& r.opmask = r.op := by
  unfold opcodeByte
  split
  · rename_i h
    rw [h] at hop ⊢
    have hor : ∀ (op : Byte) (low : BitVec 3), op &&& 0xF8 = op → (op ||| low.setWidth 8) &&& 0xF8 = op := by decide
    exact hor r.op low hop
  · exact hop

theorem opcodeByte_low {r : Row} (hop : r.op &&& r.opmask = r.op) (hmask : r.opmask = 0xF8) (low : BitVec 3) :
    (opcodeByte r low).extractLsb' 0 3 = low := by
  have hor : ∀ (op : Byte) (low : BitVec 3), op &&& 0xF8 = op → (op ||| low.setWidth 8).extractLsb' 0 3 = low := by
    decide
  rw [opcodeByte, if_pos hmask]
  exact hor r.op low (hmask ▸ hop)

/-! ## How many bytes -/

theorem byteIf_length (c : Bool) (v : Byte) : (byteIf c v).length = c.toNat := by cases c <;> rfl

theorem toList_map_length {α β : Type} (o : Option α) (f : α → β) : (o.map f).toList.length = o.isSome.toNat := by
  cases o <;> rfl

theorem dispBytes_length (d : Disp) : (dispBytes d).length = d.size := by
  cases d with
  | none => rfl
  | d8 d => rfl
  | d16 d => exact leBytes_length ..
  | d32 d => exact leBytes_length ..

theorem modrmBytes_length (m : ModRM) : (modrmBytes m).length = m.size := by
  simp only [modrmBytes, List.length_append, List.length_singleton, toList_map_length, dispBytes_length, ModRM.size]

theorem prefixBytes_length (r : Row) (p : Prefix) : (prefixBytes r p).length + 1 = headSize r p := by
  cases p with
  | legacy p =>
    cases hmap : r.map
    all_goals
      simp only [prefixBytes, commonBytes, headSize, countTrue, hmap, mapBytes, List.length_append, byteIf_length,
        toList_map_length, List.map_cons, List.map_nil, List.sum_cons, List.sum_nil, List.length_cons, List.length_nil]
      omega
  | vex p =>
    simp only [prefixBytes, commonBytes, headSize, countTrue, vexBytes, List.length_append, byteIf_length,
      toList_map_length, List.map_cons, List.map_nil, List.sum_cons, List.sum_nil]
    split
    all_goals
      simp only [List.length_cons, List.length_nil]
      omega
  | evex p =>
    simp only [prefixBytes, commonBytes, headSize, countTrue, evexBytes, List.length_append, byteIf_length,
      toList_map_length, List.map_cons, List.map_nil, List.sum_cons, List.sum_nil, List.length_cons, List.length_nil]
    omega

/-- The bytes of the ModRM part, where there is one. -/
def modrmPart (o : Option ModRM) : List Byte := o.elim [] modrmBytes

/-- The encoding in the order in which the decoder reads it: prefixes, escapes and payload, opcode, ModRM part, trailing
field. -/
theorem encode_eq (i : Instr) : encode i = prefixBytes i.row i.fields.pfx ++
    opcodeByte i.row i.fields.low :: (modrmPart i.fields.modrm ++ i.fields.trail) := by
  rw [encode, Fields.bytes, modrmPart]
  simp only [List.append_assoc, List.singleton_append]
  cases i.fields.modrm <;> rfl

theorem encode_length (i : Instr) : (encode i).length = i.fields.size := by
  have hhead : (prefixBytes i.row i.fields.pfx).length + 1 = headSize i.fields.code.row i.fields.pfx :=
    prefixBytes_length ..
  rw [encode_eq, Fields.size, modrmPart, ← hhead]
  cases i.fields.modrm with
  | none => simp only [Option.elim, List.length_append, List.length_cons, List.length_nil]; omega
  | some m => simp only [Option.elim, List.length_append, List.length_cons, modrmBytes_length]; omega

end Sys2Proof.Proofs
end

section
/-! PROOFS. The prefix scanner on encoded bytes (spec R90 to R104, R160 to R173): the scan loop takes the prefix bytes,
the escape test tells the spaces apart, and `PS` holds the prefix part of the instruction. -/

namespace Sys2Proof.Proofs

open Sys2Proof.Machine Sys2Proof.Laws

/-! ## The scan loop on a run whose effect is known -/

/-- What the scan loop makes of `PS` over a run of bytes; none when it does not take them all (R160 to R163). -/
def scanRun (b : Bitness) : List Byte → PrefixState → Option PrefixState
  | [], ps => some ps
  | v :: vs, ps => (scanByte b v ps).bind fun ps' => scanRun b vs (countPrefix ps')

theorem scanRun_append (b : Bitness) (us vs : List Byte) (ps : PrefixState) :
    scanRun b (us ++ vs) ps = (scanRun b us ps).bind (scanRun b vs) := by
  induction us generalizing ps with
  | nil => rfl
  | cons u us ih =>
    rw [List.cons_append, scanRun, scanRun, Option.bind_assoc]
    exact congrArg _ (funext fun ps' => ih (countPrefix ps'))

theorem scanPrefixes_of_scanRun {q : Source} {fuel : Nat} {t : Txn} {vs rest : List Byte} {v : Byte} {ps : PrefixState}
    (h : Ahead q t (vs ++ v :: rest)) (hfuel : vs.length < fuel) (hrun : scanRun q.bitness vs t.ps = some ps)
    (hstop : ¬Scannable q.bitness v) :
    scanPrefixes q fuel t = .ok { t with pos := t.pos + vs.length, ps := ps } := by
  induction vs generalizing t fuel with
  | nil =>
    obtain ⟨fuel, rfl⟩ : ∃ n, fuel = n + 1 := ⟨fuel - 1, by omega⟩
    obtain rfl : t.ps = ps := Option.some.inj hrun
    have hnone : scanByte q.bitness v t.ps = none := by rwa [← Option.not_isSome_iff_eq_none, scanByte_isSome]
    simp only [scanPrefixes, h.peek (k := 0) rfl, hnone]
    rfl
  | cons u us ih =>
    rw [List.length_cons] at hfuel
    obtain ⟨fuel, rfl⟩ : ∃ n, fuel = n + 1 := ⟨fuel - 1, by omega⟩
    obtain ⟨ps1, hbyte, hrest⟩ := Option.bind_eq_some_iff.mp hrun
    have hahead : Ahead q { advance t with ps := countPrefix ps1 } (us ++ v :: rest) := h.tail rfl
    have hpos : (advance t).pos + us.length = t.pos + (u :: us).length := Nat.add_right_comm ..
    rw [← hpos]
    simp only [scanPrefixes, h.peek (k := 0) rfl, hbyte]
    exact ih hahead (by omega) hrest

/-- A byte string within the length limit is shorter than the fuel of the scan loop. -/
theorem Ahead.length_le {q : Source} {t : Txn} {vs : List Byte} (h : Ahead q t vs) (hpos : t.pos = q.start) :
    vs.length ≤ maxLen := by
  have hlim := h.limit
  omega

/-! ## The prefix bytes that the encoder writes -/

/-- `PS` after the encoder's legacy prefix bytes: one member of each class, and how many bytes there were. -/
def scanned (has66 : Bool) (rep : Option Rep) (has67 : Bool) (seg : Option SegReg) (lock : Bool) (n : Nat) :
    PrefixState :=
  { PrefixState.initial with has66 := has66, rep := rep, has67 := has67, seg := seg, lock := lock, prefixCount := n }

theorem scanRun_mandatory (b : Bitness) (has66 : Bool) (rep : Option Rep) :
    ∃ n, scanRun b (byteIf has66 0x66 ++ (rep.map repByte).toList) PrefixState.initial =
      some (scanned has66 rep false none false n) := by
  cases has66
  all_goals
    rcases rep with _ | _ | _
    all_goals exact ⟨_, rfl⟩

theorem scanRun_commonBytes (b : Bitness) (has66 : Bool) (rep : Option Rep) (has67 : Bool) (seg : Option SegReg)
    (lock : Bool) (n : Nat) : ∃ n', scanRun b (commonBytes has67 seg lock) (scanned has66 rep false none false n) =
      some (scanned has66 rep has67 seg lock n') := by
  cases has67
  all_goals
    rcases seg with _ | _ | _ | _ | _ | _ | _
    all_goals
      cases lock
      all_goals exact ⟨_, rfl⟩

/-- `PS` with the fields of an effective REX (R27). -/
def withRex : Option Rex → PrefixState → PrefixState
  | none, ps => ps
  | some x, ps => { countPrefix ps with rexPresent := true, w := x.w, r := x.r, x := x.x, b := x.b }

theorem scanRun_rex {b : Bitness} {rex : Option Rex} (h : rex.isSome = true → b = .b64) (ps : PrefixState) :
    scanRun b (rex.map rexByte).toList ps = some (withRex rex ps) := by
  cases rex with
  | none => rfl
  | some x =>
    obtain rfl := h rfl
    obtain ⟨w, r, x, b⟩ := x
    cases w
    all_goals
      cases r
      all_goals
        cases x
        all_goals
          cases b
          all_goals rfl

/-- The prefix bytes of a Legacy encoding (R90). -/
def legacyBytes (p : LegacyPrefix) : List Byte :=
  byteIf p.has66 0x66 ++ (p.rep.map repByte).toList ++ commonBytes p.has67 p.seg p.lock ++ (p.rex.map rexByte).toList

/-- `PS` after those bytes. -/
def legacyScanned (p : LegacyPrefix) (n : Nat) : PrefixState :=
  withRex p.rex (scanned p.has66 p.rep p.has67 p.seg p.lock n)

theorem scanRun_legacyBytes {b : Bitness} {p : LegacyPrefix} (h : p.rex.isSome = true → b = .b64) :
    ∃ n, scanRun b (legacyBytes p) PrefixState.initial = some (legacyScanned p n) := by
  obtain ⟨n, hmandatory⟩ := scanRun_mandatory b p.has66 p.rep
  obtain ⟨n', hcommon⟩ := scanRun_commonBytes b p.has66 p.rep p.has67 p.seg p.lock n
  refine ⟨n', ?_⟩
  rw [legacyBytes, scanRun_append, scanRun_append, hmandatory, Option.bind_some, hcommon, Option.bind_some, scanRun_rex h]
  rfl

/-- Before a VEX or EVEX escape the encoder writes the shared classes only (R91, R92). -/
theorem scanRun_beforeEscape (b : Bitness) (has67 : Bool) (seg : Option SegReg) (lock : Bool) :
    ∃ n, scanRun b (commonBytes has67 seg lock) PrefixState.initial = some (scanned false none has67 seg lock n) :=
  scanRun_commonBytes b false none has67 seg lock 0

/-! ## The prefix part of a Legacy encoding -/

theorem psPrefix_legacyScanned (p : LegacyPrefix) (n : Nat) (map : OpMap) (mp : MandPfx) :
    psPrefix { legacyScanned p n with map := map, mp := mp } = .legacy p := by
  obtain ⟨has66, has67, seg, rep, lock, rex⟩ := p
  cases rex <;> rfl

theorem legacyScanned_space (p : LegacyPrefix) (n : Nat) : (legacyScanned p n).space = .legacy := by
  obtain ⟨has66, has67, seg, rep, lock, rex⟩ := p
  cases rex <;> rfl

theorem legacyScanned_mp (p : LegacyPrefix) (n : Nat) :
    legacyMp (legacyScanned p n).rep (legacyScanned p n).has66 = legacyMp p.rep p.has66 := by
  obtain ⟨has66, has67, seg, rep, lock, rex⟩ := p
  cases rex <;> rfl

/-- Where the byte after the prefix bytes is neither scanned nor an escape, the scanner ends with the Legacy prefix
part. -/
theorem prefixStage_of_legacyBytes {q : Source} {t : Txn} {p : LegacyPrefix} {v : Byte} {rest : List Byte}
    (h : Ahead q t (legacyBytes p ++ v :: rest)) (hpos : t.pos = q.start) (hps : t.ps = PrefixState.initial)
    (hrex : p.rex.isSome = true → q.bitness = .b64) (hstop : ¬Scannable q.bitness v)
    (htest : ∀ t', t'.pos = t.pos + (legacyBytes p).length → escapeTest q t' = .ok none) :
    ∃ n, prefixStage q t = .ok { t with
      pos := t.pos + (legacyBytes p).length
      ps := { legacyScanned p n with mp := legacyMp p.rep p.has66 } } := by
  obtain ⟨n, hrun⟩ := scanRun_legacyBytes hrex
  have hfuel : (legacyBytes p).length < maxLen + 1 := by
    have hlen := h.length_le hpos
    rw [List.length_append] at hlen
    omega
  have hscan := scanPrefixes_of_scanRun h hfuel (hps ▸ hrun) hstop
  refine ⟨n, ?_⟩
  rw [prefixStage_of_no_escape hscan (htest _ rfl), legacyScanned_mp]

/-! ## Escapes -/

/-- The first byte of an escape form (R97 to R99). -/
def escapeByte : Escape → Byte
  | .vex2 => 0xC5
  | .vex3 => 0xC4
  | .evex => 0x62

theorem escapeOf_escapeByte (e : Escape) : escapeOf (escapeByte e) = some e := by cases e <;> rfl

theorem not_scannable_escapeByte (b : Bitness) (e : Escape) : ¬Scannable b (escapeByte e) := by
  rw [Scannable]
  cases e <;> cases b <;> decide

/-- The escape test finds the escape whose bytes come next: outside 64-bit mode by the two top bits of the payload. -/
theorem escapeTest_of_ahead {q : Source} {t : Txn} {e : Escape} {v1 : Byte} {rest : List Byte}
    (h : Ahead q t (escapeByte e :: v1 :: rest)) (htop : q.bitness ≠ .b64 → v1 &&& 0xC0 = 0xC0) :
    escapeTest q t = .ok (some e) := by
  have hpeek : peek q t 0 = .ok (escapeByte e) := h.peek rfl
  have hpeek1 : peek q t 1 = .ok v1 := h.peek rfl
  by_cases h64 : q.bitness = .b64
  · exact escapeTest_in64 hpeek (escapeOf_escapeByte e) h64
  · rw [escapeTest_outside64 hpeek (escapeOf_escapeByte e) h64, hpeek1]
    exact congrArg Except.ok (if_pos (htop h64))

/-- What an escape with its payload bytes makes of `PS`, where R169 to R171 find nothing to refuse. -/
structure PayloadOf (b : Bitness) (e : Escape) (v1 : Byte) (vs : List Byte) (ps ps' : PrefixState) : Prop where
  length : vs.length + 2 = escapeLength e
  top : b ≠ .b64 → v1 &&& 0xC0 = 0xC0
  state : payloadState e (escapeByte e :: v1 :: vs) ps = some ps'
  extension : b = .b64 ∨ ¬ExtensionAsserted ps'

/-- `PS` after the whole escape stage (R170, R173). -/
def afterEscape (ps : PrefixState) : PrefixState :=
  { ps with has66 := false, rep := none, rexPresent := false, mp := ppMp ps.pp }

theorem escapeStage_of_payload {q : Source} {t : Txn} {e : Escape} {v1 : Byte} {vs rest : List Byte} {ps' : PrefixState}
    (h : Ahead q t (escapeByte e :: v1 :: vs ++ rest)) (hbefore : ¬ForbiddenBeforeEscape t.ps)
    (hpay : PayloadOf q.bitness e v1 vs t.ps ps') :
    escapeStage q e t = .ok { t with pos := t.pos + (escapeByte e :: v1 :: vs).length, ps := afterEscape ps' } := by
  have hread := readEscape_of_readBytes_ok (h.left.readBytes hpay.length)
  rw [hpay.state] at hread
  rw [escapeStage_of_ok hread (legacyBeforeEscape_drop (.inl hbefore) ps') (extensionBits_keep hpay.extension)]
  simp only [List.length_cons, hpay.length]
  rfl

/-- The scanner on the shared prefix bytes and an escape with its payload. -/
theorem prefixStage_of_payload {q : Source} {t : Txn} {has67 : Bool} {seg : Option SegReg} {lock : Bool} {e : Escape}
    {v1 : Byte} {vs rest : List Byte} {f : PrefixState → PrefixState}
    (h : Ahead q t (commonBytes has67 seg lock ++ (escapeByte e :: v1 :: vs ++ rest))) (hpos : t.pos = q.start)
    (hps : t.ps = PrefixState.initial)
    (hpay : ∀ n, PayloadOf q.bitness e v1 vs (scanned false none has67 seg lock n)
      (f (scanned false none has67 seg lock n))) :
    ∃ n, prefixStage q t = .ok { t with
      pos := t.pos + (commonBytes has67 seg lock ++ escapeByte e :: v1 :: vs).length
      ps := afterEscape (f (scanned false none has67 seg lock n)) } := by
  obtain ⟨n, hrun⟩ := scanRun_beforeEscape q.bitness has67 seg lock
  have hfuel : (commonBytes has67 seg lock).length < maxLen + 1 := by
    have hle := h.left.length_le hpos
    omega
  have hscan := scanPrefixes_of_scanRun h hfuel (hps ▸ hrun) (not_scannable_escapeByte _ e)
  refine ⟨n, ?_⟩
  rw [prefixStage_of_escape hscan (escapeTest_of_ahead (h.right rfl) (hpay n).top),
    escapeStage_of_payload (h.right rfl) (by simp [ForbiddenBeforeEscape, scanned, PrefixState.initial]) (hpay n),
    List.length_append, ← Nat.add_assoc]

/-! ## The payloads that the encoder writes -/

/-- No extension bit stands outside 64-bit mode (R171, R315). -/
theorem wfExt_iff (b : Bitness) (p : Prefix) :
    wfExt b p = true ↔ (b ≠ .b64 → p.r = false ∧ p.x = false ∧ p.b = false ∧ p.rp = false ∧ p.vp = false ∧
      p.vvvv.getLsbD 3 = false) := by
  simp [wfExt, and_assoc, or_iff_not_imp_left]

theorem mapOf_mapNumber {map : OpMap} (h : map ≠ .m1B) :
    mapOf (BitVec.ofNat 5 (mapNumber map)).toNat = some map ∧
      mapOf (BitVec.ofNat 2 (mapNumber map)).toNat = some map := by
  cases map with
  | m1B => exact absurd rfl h
  | m0F => exact ⟨rfl, rfl⟩
  | m0F38 => exact ⟨rfl, rfl⟩
  | m0F3A => exact ⟨rfl, rfl⟩

/-- The fields of the last byte of a VEX payload (R97, R98). -/
theorem vexLast_fields : ∀ (c l : Bool) (v : BitVec 4) (pp : BitVec 2),
    (BitVec.ofBool c ++ v ++ (BitVec.ofBool l ++ pp)).getLsbD 7 = c ∧
    (BitVec.ofBool c ++ v ++ (BitVec.ofBool l ++ pp)).extractLsb' 3 4 = v ∧
    (BitVec.ofBool c ++ v ++ (BitVec.ofBool l ++ pp)).extractLsb' 2 1 = BitVec.ofBool l ∧
    (BitVec.ofBool c ++ v ++ (BitVec.ofBool l ++ pp)).extractLsb' 0 2 = pp := by decide

/-- The fields of the first byte of a three-byte VEX payload (R98). -/
theorem vex3First_fields : ∀ (r x b : Bool) (n : BitVec 5),
    (BitVec.ofBool r ++ BitVec.ofBool x ++ BitVec.ofBool b ++ n).getLsbD 7 = r ∧
    (BitVec.ofBool r ++ BitVec.ofBool x ++ BitVec.ofBool b ++ n).getLsbD 6 = x ∧
    (BitVec.ofBool r ++ BitVec.ofBool x ++ BitVec.ofBool b ++ n).getLsbD 5 = b ∧
    (BitVec.ofBool r ++ BitVec.ofBool x ++ BitVec.ofBool b ++ n).extractLsb' 0 5 = n := by decide

/-- The fields of the three bytes of an EVEX payload (R99 to R101). -/
theorem evexFirst_fields : ∀ (r x b rp : Bool) (n : BitVec 2),
    (BitVec.ofBool r ++ BitVec.ofBool x ++ BitVec.ofBool b ++ BitVec.ofBool rp ++ 0#2 ++ n).getLsbD 7 = r ∧
    (BitVec.ofBool r ++ BitVec.ofBool x ++ BitVec.ofBool b ++ BitVec.ofBool rp ++ 0#2 ++ n).getLsbD 6 = x ∧
    (BitVec.ofBool r ++ BitVec.ofBool x ++ BitVec.ofBool b ++ BitVec.ofBool rp ++ 0#2 ++ n).getLsbD 5 = b ∧
    (BitVec.ofBool r ++ BitVec.ofBool x ++ BitVec.ofBool b ++ BitVec.ofBool rp ++ 0#2 ++ n).getLsbD 4 = rp ∧
    (BitVec.ofBool r ++ BitVec.ofBool x ++ BitVec.ofBool b ++ BitVec.ofBool rp ++ 0#2 ++ n).extractLsb' 2 2 = 0#2 ∧
    (BitVec.ofBool r ++ BitVec.ofBool x ++ BitVec.ofBool b ++ BitVec.ofBool rp ++ 0#2 ++ n).extractLsb' 0 2 = n := by
  decide

theorem evexSecond_fields : ∀ (w : Bool) (v : BitVec 4) (pp : BitVec 2),
    (BitVec.ofBool w ++ v ++ 1#1 ++ pp).getLsbD 7 = w ∧ (BitVec.ofBool w ++ v ++ 1#1 ++ pp).extractLsb' 3 4 = v ∧
    (BitVec.ofBool w ++ v ++ 1#1 ++ pp).getLsbD 2 = true ∧
    (BitVec.ofBool w ++ v ++ 1#1 ++ pp).extractLsb' 0 2 = pp := by decide

theorem evexThird_fields : ∀ (z bcst vp : Bool) (ll : BitVec 2) (aaa : BitVec 3),
    (BitVec.ofBool z ++ ll ++ BitVec.ofBool bcst ++ BitVec.ofBool vp ++ aaa).getLsbD 7 = z ∧
    (BitVec.ofBool z ++ ll ++ BitVec.ofBool bcst ++ BitVec.ofBool vp ++ aaa).extractLsb' 5 2 = ll ∧
    (BitVec.ofBool z ++ ll ++ BitVec.ofBool bcst ++ BitVec.ofBool vp ++ aaa).getLsbD 4 = bcst ∧
    (BitVec.ofBool z ++ ll ++ BitVec.ofBool bcst ++ BitVec.ofBool vp ++ aaa).getLsbD 3 = vp ∧
    (BitVec.ofBool z ++ ll ++ BitVec.ofBool bcst ++ BitVec.ofBool vp ++ aaa).extractLsb' 0 3 = aaa := by decide

/-- The two top bits of a byte, one by one. -/
theorem and_C0_of_top_bits : ∀ {v : Byte}, v.getLsbD 7 = true → v.getLsbD 6 = true → v &&& 0xC0 = 0xC0 := by decide

/-- `PS` with the fields of a VEX payload. -/
def vexState (map : OpMap) (pp : BitVec 2) (p : VexPrefix) (ps : PrefixState) : PrefixState :=
  { ps with space := .vex, map := map, r := p.r, x := p.x, b := p.b, w := p.w, vvvv := p.vvvv,
            ll := (BitVec.ofBool p.l).setWidth 2, pp := pp }

/-- `PS` with the fields of an EVEX payload. -/
def evexState (map : OpMap) (pp : BitVec 2) (p : EvexPrefix) (ps : PrefixState) : PrefixState :=
  { ps with space := .evex, map := map, r := p.r, x := p.x, b := p.b, rp := p.rp, w := p.w, vvvv := p.vvvv, pp := pp,
            z := p.z, ll := p.ll, bcst := p.bcst, vp := p.vp, aaa := p.aaa }

theorem not_extensionAsserted {ps : PrefixState} (hb : ps.b = false) (hrp : ps.rp = false) (hvp : ps.vp = false)
    (hvvvv : ps.vvvv.getLsbD 3 = false) : ¬ExtensionAsserted ps := by
  rw [← extensionAsserted_iff, hb, hrp, hvp, hvvvv]
  exact Bool.false_ne_true

theorem payloadState_vex2 (pp : BitVec 2) {p : VexPrefix} (hw : p.w = false) (hx : p.x = false) (hb : p.b = false)
    (ps : PrefixState) :
    payloadState .vex2 [0xC5, BitVec.ofBool (!p.r) ++ ~~~p.vvvv ++ (BitVec.ofBool p.l ++ pp)] ps =
      some (vexState .m0F pp p ps) := by
  obtain ⟨hr, hv, hl, hpp⟩ := vexLast_fields (!p.r) p.l (~~~p.vvvv) pp
  simp only [payloadState, vex2Payload, vexState, hr, hv, hl, hpp, Bool.not_not, BitVec.not_not, hw, hx, hb]

theorem payloadState_vex3 {map : OpMap} (hmap : map ≠ .m1B) (pp : BitVec 2) (p : VexPrefix) (ps : PrefixState) :
    payloadState .vex3 [0xC4, BitVec.ofBool (!p.r) ++ BitVec.ofBool (!p.x) ++ BitVec.ofBool (!p.b) ++
        BitVec.ofNat 5 (mapNumber map), BitVec.ofBool p.w ++ ~~~p.vvvv ++ (BitVec.ofBool p.l ++ pp)] ps =
      some (vexState map pp p ps) := by
  obtain ⟨hr, hx, hb, hn⟩ := vex3First_fields (!p.r) (!p.x) (!p.b) (BitVec.ofNat 5 (mapNumber map))
  obtain ⟨hw, hv, hl, hpp⟩ := vexLast_fields p.w p.l (~~~p.vvvv) pp
  obtain ⟨hmapOf, -⟩ := mapOf_mapNumber hmap
  simp only [payloadState, hn, hmapOf, Option.map_some, vex3Payload, vexState, hr, hx, hb, hw, hv, hl, hpp, Bool.not_not,
    BitVec.not_not]

theorem payloadState_evex {map : OpMap} (hmap : map ≠ .m1B) (pp : BitVec 2) (p : EvexPrefix) (ps : PrefixState) :
    payloadState .evex (evexBytes map pp p) ps = some (evexState map pp p ps) := by
  obtain ⟨hr, hx, hb, hrp, hres, hn⟩ := evexFirst_fields (!p.r) (!p.x) (!p.b) (!p.rp) (BitVec.ofNat 2 (mapNumber map))
  obtain ⟨hw, hv, hone, hpp⟩ := evexSecond_fields p.w (~~~p.vvvv) pp
  obtain ⟨hz, hll, hbcst, hvp, haaa⟩ := evexThird_fields p.z p.bcst (!p.vp) p.ll p.aaa
  obtain ⟨-, hmapOf⟩ := mapOf_mapNumber hmap
  simp only [evexBytes, payloadState, hres, hone, and_self, if_true, hn, hmapOf, Option.map_some, evexPayload, evexState,
    hr, hx, hb, hrp, hw, hv, hpp, hz, hll, hbcst, hvp, haaa, Bool.not_not, BitVec.not_not]

/-- The VEX payload in the form that the encoder chooses. -/
theorem exists_payloadOf_vexBytes {b : Bitness} {map : OpMap} (hmap : map ≠ .m1B) (pp : BitVec 2) {p : VexPrefix}
    (hext : wfExt b (.vex p) = true) :
    ∃ e v1 vs, vexBytes map pp p = escapeByte e :: v1 :: vs ∧
      ∀ ps, ps.rp = false → ps.vp = false → PayloadOf b e v1 vs ps (vexState map pp p ps) := by
  have hbits := (wfExt_iff _ _).mp hext
  have hextension (ps : PrefixState) (hrp : ps.rp = false) (hvp : ps.vp = false) :
      b = .b64 ∨ ¬ExtensionAsserted (vexState map pp p ps) := by
    refine or_iff_not_imp_left.mpr fun h64 => ?_
    obtain ⟨-, -, hb, -, -, hvvvv⟩ := hbits h64
    exact not_extensionAsserted hb hrp hvp hvvvv
  unfold vexBytes
  split
  · refine ⟨.vex3, _, _, rfl, fun ps hrp hvp =>
      ⟨rfl, fun h64 => ?_, payloadState_vex3 hmap pp p ps, hextension ps hrp hvp⟩⟩
    obtain ⟨hr, hx, -⟩ := hbits h64
    obtain ⟨h7, h6, -⟩ := vex3First_fields (!p.r) (!p.x) (!p.b) (BitVec.ofNat 5 (mapNumber map))
    refine and_C0_of_top_bits (h7.trans ?_) (h6.trans ?_)
    · exact congrArg Bool.not hr
    · exact congrArg Bool.not hx
  · rename_i hshort
    simp only [Bool.or_eq_true, bne_iff_ne, not_or, Bool.not_eq_true, ne_eq, not_not] at hshort
    obtain ⟨⟨⟨hw, hx⟩, hb⟩, rfl⟩ := hshort
    refine ⟨.vex2, _, _, rfl, fun ps hrp hvp =>
      ⟨rfl, fun h64 => ?_, payloadState_vex2 pp hw hx hb ps, hextension ps hrp hvp⟩⟩
    obtain ⟨hr, -, -, -, -, hvvvv⟩ := hbits h64
    have htop : ∀ (v : BitVec 4) (l : Bool) (pp : BitVec 2), v.getLsbD 3 = false →
        (BitVec.ofBool true ++ ~~~v ++ (BitVec.ofBool l ++ pp)) &&& 0xC0 = 0xC0 := by decide
    have hr : p.r = false := hr
    rw [hr]
    exact htop p.vvvv p.l pp hvvvv

theorem exists_payloadOf_evexBytes {b : Bitness} {map : OpMap} (hmap : map ≠ .m1B) (pp : BitVec 2) {p : EvexPrefix}
    (hext : wfExt b (.evex p) = true) :
    ∃ v1 vs, evexBytes map pp p = escapeByte .evex :: v1 :: vs ∧
      ∀ ps, PayloadOf b .evex v1 vs ps (evexState map pp p ps) := by
  have hbits := (wfExt_iff _ _).mp hext
  refine ⟨_, _, rfl, fun ps =>
    ⟨rfl, fun h64 => ?_, payloadState_evex hmap pp p ps, or_iff_not_imp_left.mpr fun h64 => ?_⟩⟩
  · obtain ⟨hr, hx, -⟩ := hbits h64
    obtain ⟨h7, h6, -⟩ := evexFirst_fields (!p.r) (!p.x) (!p.b) (!p.rp) (BitVec.ofNat 2 (mapNumber map))
    refine and_C0_of_top_bits (h7.trans ?_) (h6.trans ?_)
    · exact congrArg Bool.not hr
    · exact congrArg Bool.not hx
  · obtain ⟨-, -, hb, hrp, hvp, hvvvv⟩ := hbits h64
    exact not_extensionAsserted hb hrp hvp hvvvv

/-! ## The prefix part of a VEX or EVEX encoding -/

theorem psPrefix_vexState (map : OpMap) (pp : BitVec 2) (p : VexPrefix) (n : Nat) :
    psPrefix (afterEscape (vexState map pp p (scanned false none p.has67 p.seg p.lock n))) = .vex p := by
  have hl : ((BitVec.ofBool p.l).setWidth 2).getLsbD 0 = p.l := by cases p.l <;> rfl
  rw [psPrefix_vex rfl]
  simp only [afterEscape, vexState, scanned, hl]

theorem psPrefix_evexState (map : OpMap) (pp : BitVec 2) (p : EvexPrefix) (n : Nat) :
    psPrefix (afterEscape (evexState map pp p (scanned false none p.has67 p.seg p.lock n))) = .evex p := rfl

theorem ppMp_mpPp (mp : MandPfx) : ppMp (mpPp mp) = mp := by cases mp <;> rfl

end Sys2Proof.Proofs
end

section
/-! PROOFS. The scanner and the opcode read on an encoded instruction (spec R160 to R192): they find its prefix part, its
map and its opcode byte. -/

namespace Sys2Proof.Proofs

open Sys2Proof.Machine Sys2Proof.Laws

/-! ## The checks by name -/

/-- The checks of `wfChecks`, one by one. -/
structure Checks (b : Bitness) (r : Row) (f : Parts) : Prop where
  mode : wfMode b r = true
  rex : wfRex b f.pfx = true
  ext : wfExt b f.pfx = true ∨ f.pfx.space = .legacy
  mandPfx : wfMandPfx r f.pfx = true
  opSize : wfOpSize b r f.pfx = true
  w : wfW r f.pfx = true
  reg : wfReg r f.m = true
  mod : wfMod r f.m = true
  vecLen : wfVecLen r f.pfx f.m = true
  vvvv : wfVvvv r f.pfx = true
  features : wfFeatures r f.pfx f.m = true
  regK : wfRegK r f.pfx = true
  sib : f.modrm = none ∨ wfSib (f.pfx.addrSize b) f.m = true
  disp : f.modrm = none ∨ wfDisp (f.pfx.addrSize b) f.m = true
  trail : f.trail.length = trailLength (f.pfx.addrSize b) r.ops
  opcode : wfOpcode b r = true

theorem checks_of_wfChecks {b : Bitness} {r : Row} {f : Parts} (h : (wfChecks b r f).all id = true) : Checks b r f := by
  simp only [wfChecks, List.all_cons, List.all_nil, id, Bool.and_eq_true, Bool.or_eq_true, beq_iff_eq,
    Option.isNone_iff_eq_none, wfTrail, and_true] at h
  obtain ⟨hmode, hrex, hext, hmp, hosz, hw, hreg, hmod, hlen, hvvvv, hfeat, hregK, hsib, hdisp, htrail, hop⟩ := h
  exact ⟨hmode, hrex, hext, hmp, hosz, hw, hreg, hmod, hlen, hvvvv, hfeat, hregK, hsib, hdisp, htrail, hop⟩

/-! ## The opcodes of the reference rows -/

/-- A row of a table that reads instructions of the row `r`: it differs in no more than two keys. -/
abbrev withKeys (r : Row) (osz : Option OpSize) (bs : List Bitness) : Row := { r with osz := osz, bitness := bs }

theorem code_op_and_mask (c : Code) : c.row.op &&& c.row.opmask = c.row.op := by cases c <;> rfl

/-- Code by code, the Legacy opcodes: in map `1B` no map escape and no prefix byte, and an escape byte only as the whole
opcode of a memory form; in map `0F` no further map escape; and no other map. -/
theorem code_legacy_opcode (c : Code) : (c.row.space != .legacy
    || c.row.map == .m1B && (0x0F :: legacyPrefixBytes).all (fun v => v &&& c.row.opmask != c.row.op)
      && (escapeBytes.all (fun v => v &&& c.row.opmask != c.row.op)
        || c.row.opmask == 0xFF && c.row.hasModrm && decide (c.row.mod = some .mem))
    || c.row.map == .m0F && [0x38, 0x3A].all (fun v => v &&& c.row.opmask != c.row.op)) = true := by
  cases c <;> rfl

/-- Code by code, a VEX or EVEX row is of a map other than `1B` and fixes the mandatory prefix. -/
theorem code_payload_keys (c : Code) : (c.row.space == .legacy || c.row.map != .m1B && c.row.mp.isSome) = true := by
  cases c <;> rfl

theorem payload_keys {i : Instr} (h : i.row.space ≠ .legacy) : i.row.map ≠ .m1B ∧ ∃ mp, i.row.mp = some mp := by
  have hkeys := code_payload_keys i.code
  simp only [Bool.or_eq_true, beq_iff_eq, Bool.and_eq_true, bne_iff_ne] at hkeys
  exact (hkeys.resolve_left h).imp_right Option.isSome_iff_exists.mp

/-- A byte that the opcode test of a Legacy reference row accepts. -/
theorem legacyOpcode_cases {c : Code} (hspace : c.row.space = .legacy) {v : Byte} (hv : v &&& c.row.opmask = c.row.op) :
    (c.row.map = .m1B ∧ v ≠ 0x0F ∧ v ∉ legacyPrefixBytes ∧
        (escapeOf v = none ∨ v = c.row.op ∧ c.row.hasModrm = true ∧ c.row.mod = some .mem)) ∨
      (c.row.map = .m0F ∧ v ≠ 0x38 ∧ v ≠ 0x3A) := by
  have hne {vs : List Byte} (h : vs.all (fun u => u &&& c.row.opmask != c.row.op) = true) : v ∉ vs := fun hmem =>
    bne_iff_ne.mp (List.all_eq_true.mp h v hmem) hv
  have hc := code_legacy_opcode c
  simp only [hspace, bne_self_eq_false, Bool.false_or, Bool.or_eq_true, Bool.and_eq_true, beq_iff_eq,
    decide_eq_true_eq] at hc
  rcases hc with ⟨⟨hmap, hprefix⟩, hescape⟩ | ⟨hmap, hmaps⟩
  · obtain ⟨h0F, hnot⟩ := List.ne_and_not_mem_of_not_mem_cons (hne hprefix)
    refine .inl ⟨hmap, h0F, hnot,
      hescape.imp (fun hall => ?_) fun ⟨⟨hmask, hhas⟩, hmod⟩ => ⟨?_, hhas, hmod⟩⟩
    · by_contra hsome
      obtain ⟨e, he⟩ := Option.ne_none_iff_exists'.mp hsome
      exact hne hall (mem_escapeBytes_of_escapeOf he)
    · rw [← hv, hmask]
      exact (BitVec.and_allOnes (x := v)).symm
  · have hnot := hne hmaps
    simp only [List.mem_cons, List.not_mem_nil, or_false, not_or] at hnot
    exact .inr ⟨hmap, hnot⟩

theorem takenIn64_of_wfOpcode {b : Bitness} {r : Row} (h : wfOpcode b r = true) (h64 : b = .b64)
    (hspace : r.space = .legacy) (hmap : r.map = .m1B) : takenIn64 r.op = false := by
  simpa [wfOpcode, h64, hspace, hmap, takenIn64] using h

/-- A byte of the REX range stays in it under an opcode mask. -/
theorem rex_and_mask {v mask : Byte} (hmask : mask = 0xFF ∨ mask = 0xF8) (h : v.toNat / 16 = 4) :
    takenIn64 (v &&& mask) = true := by
  rcases hmask with rfl | rfl
  all_goals
    revert v
    decide

/-! ## What the scanner and the opcode read find -/

/-- The scanner ends in `t` and the opcode read in `t1`, which holds the prefix part, the map, the mandatory prefix and
the opcode byte of the instruction, `POS` just after that byte. -/
structure HeadRead (q : Source) (i : Instr) (t t1 : Txn) : Prop where
  prefixes : prefixStage q (Txn.initial q.start) = .ok t
  opcode : readOpcode q t = .ok t1
  txn : t1 = { Txn.initial q.start with
    pos := q.start + (prefixBytes i.row i.fields.pfx).length + 1
    ps := t1.ps
    opcode := some (opcodeByte i.row i.fields.low) }
  pfx : psPrefix t1.ps = i.fields.pfx
  map : t1.ps.map = i.row.map
  mp : i.row.mp.all (fun x => decide (x = t1.ps.mp)) = true

section
variable {q : Source} {i : Instr} {osz : Option OpSize} {bs : List Bitness}

/-- Every instruction has a ModRM part exactly when its row reads one. -/
theorem fields_modrm_isSome (i : Instr) : i.fields.modrm.isSome = i.row.hasModrm := by cases i <;> rfl

theorem opcodeByte_accepted (i : Instr) : opcodeByte i.row i.fields.low &&& i.row.opmask = i.row.op :=
  opcodeByte_and_mask (code_op_and_mask i.code) _

theorem opmask_row (i : Instr) : i.row.opmask = 0xFF ∨ i.row.opmask = 0xF8 :=
  (rowAdmissible_keys (rowAdmissible_row i.code)).1

/-- No Legacy opcode of the map `1B` is a byte that the scan loop takes in a mode in which the instruction is well
formed. -/
theorem not_scannable_opcodeByte (hc : Checks q.bitness (withKeys i.row osz bs) i.fields.toParts)
    (hspace : i.row.space = .legacy) (hmap : i.row.map = .m1B)
    (hnot : opcodeByte i.row i.fields.low ∉ legacyPrefixBytes) :
    ¬Scannable q.bitness (opcodeByte i.row i.fields.low) := by
  rintro (hmem | ⟨h64, hrex⟩)
  · exact hnot hmem
  · have hfree : takenIn64 i.row.op = false := takenIn64_of_wfOpcode hc.opcode h64 hspace hmap
    have htaken := rex_and_mask (opmask_row i) hrex
    rw [opcodeByte_accepted, hfree] at htaken
    exact Bool.false_ne_true htaken

/-- At the opcode byte of a well-formed Legacy instruction the escape test finds no escape: an opcode that is an escape
byte is one outside 64-bit mode, before a ModRM byte of a memory form (R104). -/
theorem escapeTest_of_legacy_opcode (hc : Checks q.bitness (withKeys i.row osz bs) i.fields.toParts)
    (hspace : i.row.space = .legacy) (hmap : i.row.map = .m1B) {t : Txn}
    (h : Ahead q t (opcodeByte i.row i.fields.low :: (modrmPart i.fields.modrm ++ i.fields.trail)))
    (hesc : escapeOf (opcodeByte i.row i.fields.low) = none ∨
      opcodeByte i.row i.fields.low = i.row.op ∧ i.row.hasModrm = true ∧ i.row.mod = some .mem) :
    escapeTest q t = .ok none := by
  have hpeek : peek q t 0 = .ok (opcodeByte i.row i.fields.low) := h.peek rfl
  cases he : escapeOf (opcodeByte i.row i.fields.low) with
  | none => exact escapeTest_of_no_escape_byte hpeek he
  | some e =>
    obtain ⟨hop, hhas, hmem⟩ := hesc.resolve_left (by simp [he])
    have h64 : q.bitness ≠ .b64 := fun h64 => by
      have hfree : takenIn64 i.row.op = false := takenIn64_of_wfOpcode hc.opcode h64 hspace hmap
      have hmem := mem_escapeBytes_of_escapeOf (hop ▸ he)
      simp only [escapeBytes, List.mem_cons, List.not_mem_nil, or_false] at hmem
      rcases hmem with hmem | hmem | hmem
      all_goals
        rw [hmem] at hfree
        cases hfree
    obtain ⟨m, hm⟩ := Option.isSome_iff_exists.mp ((fields_modrm_isSome i).trans hhas)
    have hpeek1 : peek q t 1 = .ok (m.mod ++ m.reg ++ m.rm) := h.peek (by rw [hm]; rfl)
    have hmod : m.mod ≠ 3 := by
      have hcheck := hc.mod
      simpa [wfMod, hmem, Parts.m, hm] using hcheck
    have hsplit := congrArg ModRM.mod (splitModRM_append m.mod m.reg m.rm)
    have hbits : ¬(m.mod ++ m.reg ++ m.rm) &&& 0xC0 = (0xC0 : Byte) := fun htop =>
      hmod (hsplit.symm.trans ((top_bits_set_iff _).mpr htop))
    rw [escapeTest_outside64 hpeek he h64, hpeek1]
    exact congrArg Except.ok (if_neg hbits)

/-- A Legacy instruction: the prefix bytes, then the opcode in map `1B`, or 0Fh and the opcode in map `0F`. -/
theorem exists_headRead_legacy {p : LegacyPrefix} (hp : i.fields.pfx = .legacy p)
    (hc : Checks q.bitness (withKeys i.row osz bs) i.fields.toParts)
    (h : Ahead q (Txn.initial q.start) (encode i)) : ∃ t t1, HeadRead q i t t1 := by
  have hspace : i.row.space = .legacy := by rw [← fields_space, hp]; rfl
  have hrex : p.rex.isSome = true → q.bitness = .b64 := by
    have hcheck := hc.rex
    intro hsome
    simpa [wfRex, hp, Prefix.rexPresent, hsome] using hcheck
  have hmp : i.row.mp.all (fun x => decide (x = legacyMp p.rep p.has66)) = true := by
    have hcheck : i.row.mp.all (· == legacyMp p.rep p.has66) = true := by
      simpa [wfMandPfx, hp, Prefix.space, Prefix.rep, Prefix.has66] using hc.mandPfx
    exact hcheck
  have hbytes : prefixBytes i.row i.fields.pfx = legacyBytes p ++ mapBytes i.row.map := by rw [hp]; rfl
  rw [encode_eq, hbytes, List.append_assoc] at h
  suffices hreads : ∃ n t, prefixStage q (Txn.initial q.start) = .ok t ∧ readOpcode q t = .ok { Txn.initial q.start with
      pos := q.start + (prefixBytes i.row i.fields.pfx).length + 1
      ps := { legacyScanned p n with map := i.row.map, mp := legacyMp p.rep p.has66 }
      opcode := some (opcodeByte i.row i.fields.low) } by
    obtain ⟨n, t, hpre, hop⟩ := hreads
    exact ⟨t, _, hpre, hop, rfl, (psPrefix_legacyScanned p n _ _).trans hp.symm, rfl, hmp⟩
  rw [hbytes]
  rcases legacyOpcode_cases hspace (opcodeByte_accepted i) with
    ⟨(hmap : i.row.map = .m1B), h0F, hnot, hesc⟩ | ⟨(hmap : i.row.map = .m0F), h38, h3A⟩
  · rw [hmap, mapBytes] at h ⊢
    obtain ⟨n, hpre⟩ := prefixStage_of_legacyBytes h rfl rfl hrex (not_scannable_opcodeByte hc hspace hmap hnot)
      fun t' ht' => escapeTest_of_legacy_opcode hc hspace hmap (h.right ht') hesc
    refine ⟨n, _, hpre, ?_⟩
    rw [readOpcode_without_0F (legacyScanned_space p n) h0F ((h.right rfl).peek rfl), List.append_nil]
    rfl
  · rw [hmap, mapBytes] at h ⊢
    have hstop : ¬Scannable q.bitness 0x0F := by
      rw [Scannable]
      cases q.bitness <;> decide
    obtain ⟨n, hpre⟩ := prefixStage_of_legacyBytes h rfl rfl hrex hstop
      fun t' ht' => escapeTest_of_no_escape_byte ((h.right ht').peek rfl) rfl
    refine ⟨n, _, hpre, ?_⟩
    rw [readOpcode_after_0F (legacyScanned_space p n) ((h.right rfl).peek rfl) ((h.right rfl).peek rfl), if_neg h38,
      if_neg h3A, List.length_append, ← Nat.add_assoc]
    rfl

/-- An instruction with an escape and its payload: the opcode is the byte after them, in the map of the payload. -/
theorem exists_headRead_of_payload {has67 : Bool} {seg : Option SegReg} {lock : Bool} {e : Escape} {v1 : Byte}
    {vs : List Byte} {f : PrefixState → PrefixState}
    (hbytes : prefixBytes i.row i.fields.pfx = commonBytes has67 seg lock ++ escapeByte e :: v1 :: vs)
    (h : Ahead q (Txn.initial q.start) (encode i))
    (hpay : ∀ n, PayloadOf q.bitness e v1 vs (scanned false none has67 seg lock n)
      (f (scanned false none has67 seg lock n)))
    (hspace : ∀ ps, (f ps).space = i.row.space) (hne : i.row.space ≠ .legacy) (hmap : ∀ ps, (f ps).map = i.row.map)
    (hpp : ∀ ps, (f ps).pp = mpPp (i.row.mp.getD .NP))
    (hpfx : ∀ n, psPrefix (afterEscape (f (scanned false none has67 seg lock n))) = i.fields.pfx) :
    ∃ t t1, HeadRead q i t t1 := by
  rw [encode_eq, hbytes] at h
  obtain ⟨n, hpre⟩ := prefixStage_of_payload (by simpa only [List.append_assoc] using h) rfl rfl hpay
  refine ⟨_, _, hpre, readOpcode_after_payload ?_ ((h.right rfl).peek rfl), ?_, hpfx n, hmap _, ?_⟩
  · exact fun hs => hne ((hspace _).symm.trans hs)
  · rw [hbytes]
    rfl
  · obtain ⟨-, mp, hmp⟩ := payload_keys hne
    have hps : ppMp (f (scanned false none has67 seg lock n)).pp = mp := by
      rw [hpp, hmp, Option.getD_some, ppMp_mpPp]
    rw [hmp, Option.all_some, decide_eq_true_eq, ← hps]
    rfl

theorem exists_headRead_vex {p : VexPrefix} (hp : i.fields.pfx = .vex p)
    (hc : Checks q.bitness (withKeys i.row osz bs) i.fields.toParts)
    (h : Ahead q (Txn.initial q.start) (encode i)) : ∃ t t1, HeadRead q i t t1 := by
  have hspace : i.row.space = .vex := by rw [← fields_space, hp]; rfl
  have hne : i.row.space ≠ .legacy := by simp [hspace]
  have hext : wfExt q.bitness (.vex p) = true := hp ▸ hc.ext.resolve_right (by simp [hp, Prefix.space])
  obtain ⟨e, v1, vs, hbytes, hpay⟩ := exists_payloadOf_vexBytes (payload_keys hne).1 (mpPp (i.row.mp.getD .NP)) hext
  refine exists_headRead_of_payload (has67 := p.has67) (seg := p.seg) (lock := p.lock) ?_ h (fun n => hpay _ rfl rfl)
    (fun _ => hspace.symm) hne (fun _ => rfl) (fun _ => rfl) fun n => ?_
  · rw [hp, ← hbytes]
    rfl
  · rw [psPrefix_vexState, hp]

theorem exists_headRead_evex {p : EvexPrefix} (hp : i.fields.pfx = .evex p)
    (hc : Checks q.bitness (withKeys i.row osz bs) i.fields.toParts)
    (h : Ahead q (Txn.initial q.start) (encode i)) : ∃ t t1, HeadRead q i t t1 := by
  have hspace : i.row.space = .evex := by rw [← fields_space, hp]; rfl
  have hne : i.row.space ≠ .legacy := by simp [hspace]
  have hext : wfExt q.bitness (.evex p) = true := hp ▸ hc.ext.resolve_right (by simp [hp, Prefix.space])
  obtain ⟨v1, vs, hbytes, hpay⟩ := exists_payloadOf_evexBytes (payload_keys hne).1 (mpPp (i.row.mp.getD .NP)) hext
  refine exists_headRead_of_payload (has67 := p.has67) (seg := p.seg) (lock := p.lock) ?_ h (fun n => hpay _)
    (fun _ => hspace.symm) hne (fun _ => rfl) (fun _ => rfl) fun n => ?_
  · rw [hp, ← hbytes]
    rfl
  · rw [psPrefix_evexState, hp]

/-- The scanner and the opcode read find what the encoder wrote, in each space. -/
theorem exists_headRead (hc : Checks q.bitness (withKeys i.row osz bs) i.fields.toParts)
    (h : Ahead q (Txn.initial q.start) (encode i)) : ∃ t t1, HeadRead q i t t1 := by
  cases hp : i.fields.pfx with
  | legacy p => exact exists_headRead_legacy hp hc h
  | vex p => exact exists_headRead_vex hp hc h
  | evex p => exact exists_headRead_evex hp hc h

end

end Sys2Proof.Proofs
end

section
/-! PROOFS. The round trip (spec R190 to R200, R223 to R239, R267 to R271): on the bytes of a well-formed instruction the
dispatcher selects the instruction's row, the later reads give its fields, and the decoder answers the instruction. -/

namespace Sys2Proof.Proofs

open Sys2Proof.Machine Sys2Proof.Laws

/-! ## The dispatcher's tests from the checks -/

section
variable {b : Bitness} {ps : PrefixState} {m : ModRM} {r : Row} {f : Parts}

theorem keyMatch_of_checks (hc : Checks b r f) (hp : PrefixHolds f.pfx ps)
    (hmp : r.mp.all (fun x => decide (x = ps.mp)) = true) (hmod : m.mod = f.m.mod) (hreg : m.reg = f.m.reg) :
    keyMatch ps (opSize b ps.w ps.has66) m r = true := by
  obtain ⟨-, h66, -, -, -, -, -, hw, -⟩ := hp
  rw [keyMatch_iff, ← hw, ← h66, hmod, hreg]
  refine ⟨hmp, hc.opSize, hc.w, hc.reg, ?_⟩
  have hcheck := hc.mod
  cases hkey : r.mod with
  | none => rfl
  | some c => cases c <;> simpa [wfMod, hkey, modMatches] using hcheck

/-- Code by code, a Legacy row has no vector-length key (R30). -/
theorem code_legacy_length (c : Code) : (c.row.space != .legacy || c.row.l.isNone) = true := by cases c <;> rfl

/-- In a family that has the row itself: a register-only EVEX form with `b` = 1 is one of a row that permits it, so that
the length is 512 (R196, R199). -/
theorem lengthMatch_of_checks (hc : Checks b r f) (hp : PrefixHolds f.pfx ps) (hl : ps.space = .legacy → r.l = none)
    (hmod : m.mod = f.m.mod) {fam : List Row} (hfam : r ∈ fam) :
    lengthMatch (lengthSelector ps m fam) r = true := by
  obtain ⟨hspace, -, -, -, -, -, -, -, -, -, -, -, -, -, hbcst, hvex, hevex⟩ := hp
  have hlen := hc.vecLen
  have hfeat := hc.features
  cases hpfx : f.pfx with
  | legacy p =>
    rw [lengthMatch, hl (by rw [← hspace, hpfx]; rfl)]
    rfl
  | vex v =>
    have hs : ps.space = .vex := by rw [← hspace, hpfx]; rfl
    simp only [lengthSelector, hs, lengthMatch_some, ← hvex v hpfx]
    simpa only [wfVecLen, hpfx] using hlen
  | evex e =>
    have hs : ps.space = .evex := by rw [← hspace, hpfx]; rfl
    have hb : e.bcst = ps.bcst := by rw [← hbcst, hpfx]; rfl
    obtain ⟨hll, -⟩ := hevex e hpfx
    simp only [wfVecLen, wfFeatures, hpfx, hb, hll, ← hmod] at hlen hfeat
    simp only [lengthSelector, hs]
    by_cases hform : ps.bcst = true ∧ m.mod = 3
    · obtain ⟨hbit, hreg⟩ := hform
      have hersae : r.ersae ≠ .none := by
        rintro hnone
        simp [hbit, hreg, hnone] at hfeat
      have hany : fam.any (fun x => decide (x.ersae ≠ .none)) = true :=
        List.any_eq_true.mpr ⟨r, hfam, decide_eq_true hersae⟩
      simp only [hbit, hreg, hany, decide_true, Bool.and_true, if_true, lengthMatch_some]
      simpa only [hbit, hreg, beq_self_eq_true, Bool.and_true, if_true] using hlen
    · have hoff : (ps.bcst && decide (m.mod = 3)) = false := by simpa using hform
      have hoff' : (ps.bcst && m.mod == 3) = false := hoff
      simp only [hoff, Bool.false_and, Bool.false_eq_true, if_false, lengthMatch_eq]
      simpa only [hoff', Bool.false_eq_true, if_false] using hlen

theorem featuresOk_of_checks (hc : Checks b r f) (hp : PrefixHolds f.pfx ps) (hmod : m.mod = f.m.mod) :
    featuresOk ps m r = true := by
  obtain ⟨hspace, -, -, -, -, -, -, -, hr, -, -, hrp, hvp, hvvvv, hbcst, -, hevex⟩ := hp
  have hcheck := hc.vvvv
  have hregK := hc.regK
  rw [wfVvvv, hspace, hvp, hvvvv] at hcheck
  rw [wfRegK, hr, hrp, ← Bool.not_and] at hregK
  rw [featuresOk, hregK, Bool.and_true, Bool.and_eq_true]
  constructor
  · simpa [or_iff_not_imp_left] using hcheck
  · cases hpfx : f.pfx with
    | legacy p => simp [← hspace, hpfx, Prefix.space]
    | vex v => simp [← hspace, hpfx, Prefix.space]
    | evex e =>
      have hb : e.bcst = ps.bcst := by rw [← hbcst, hpfx]; rfl
      obtain ⟨-, hz, haaa⟩ := hevex e hpfx
      have hfeat := hc.features
      simp only [wfFeatures, hpfx, hb, hz, haaa, ← hmod] at hfeat
      simp only [Bool.and_eq_true] at hfeat
      obtain ⟨⟨⟨⟨hk, hzeroing⟩, hmask⟩, hb⟩, her⟩ := hfeat
      rw [Bool.or_eq_true]
      right
      simp only [Bool.and_eq_true]
      refine ⟨⟨⟨⟨?_, ?_⟩, ?_⟩, ?_⟩, ?_⟩
      · simpa [or_iff_not_imp_left] using hk
      · simpa [or_iff_not_imp_left] using hzeroing
      · simpa [or_iff_not_imp_left] using hmask
      · simpa [or_assoc, or_iff_not_imp_left] using hb
      · simpa [or_assoc, or_iff_not_imp_left] using her

end

/-! ## The dispatcher on an encoded instruction -/

/-- The ModRM part as far as the dispatcher has read it: without SIB and displacement. -/
def bareModRM (m : ModRM) : ModRM := { m with sib := none, disp := .none }

/-- The transaction after the dispatcher has selected row `r` (R200). -/
def dispatchedTo (q : Source) (r : Row) (t : Txn) : Txn :=
  { t with osz := some (opSize q.bitness t.ps.w t.ps.has66), asz := some (addrSize q.bitness t.ps.has67), row := some r }

/-- A row that passes every test is the one that selection answers: under an admissible table no other row is left. -/
theorem dispatchStage_of_row {q : Source} {t t1 t2 : Txn} {op : Byte} {r : Row} (ha : admissible q.params.table = true)
    (hpre : prefixStage q (Txn.initial q.start) = .ok t) (hop : readOpcode q t = .ok t1) (hopcode : t1.opcode = some op)
    (hcand : r ∈ candidates q.params.table t1.ps op)
    (hmodrm : readModRM q (candidates q.params.table t1.ps op) t1 = .ok t2)
    (hleft : r ∈ leftRows q t2 (candidates q.params.table t1.ps op))
    (hfeat : featuresOk t2.ps (t2.modrm.getD ModRM.zero) r = true) :
    dispatchStage q t = .ok (r, dispatchedTo q r t2) := by
  obtain ⟨r', -, hsel⟩ := exists_selectRow_of_inMode (List.ne_nil_of_mem hleft)
  have hone := selectedRowIsUnique q t t1 t2 op r' ha hpre hop hopcode hmodrm hsel
  have hmem : r ∈ [r'] := hone ▸ hleft
  obtain rfl := List.mem_singleton.mp hmem
  have hne : (candidates q.params.table t1.ps op).isEmpty = false :=
    List.isEmpty_eq_false_iff_exists_mem.mpr ⟨r, hcand⟩
  simp only [dispatchStage, hop, hopcode, Option.getD_some, hne, Bool.false_eq_true, if_false, hmodrm, hsel,
    hfeat, if_true]
  rfl

section
variable {q : Source} {i : Instr} {osz : Option OpSize} {bs : List Bitness} {t t1 : Txn}

theorem HeadRead.holds (h : HeadRead q i t t1) : PrefixHolds i.fields.pfx t1.ps := by
  have hps := scannerState_of_reads (cand := []) h.prefixes h.opcode rfl
  rw [← h.pfx]
  exact hps.holds

/-- The row of the instruction is a candidate on its opcode byte (R193). -/
theorem HeadRead.mem_candidates (h : HeadRead q i t t1)
    (hmem : withKeys i.row osz bs ∈ q.params.table) :
    withKeys i.row osz bs ∈ candidates q.params.table t1.ps (opcodeByte i.row i.fields.low) := by
  obtain ⟨hspace, -⟩ := h.holds
  exact Laws.mem_candidates.mpr ⟨hmem, (fields_space i).symm.trans hspace, h.map.symm, opcodeByte_accepted i⟩

/-- The ModRM byte is read exactly when the instruction has one, and splits into its fields (R194, R220). -/
theorem readModRM_of_ahead {cand : List Row} (hhas : cand.any (·.hasModrm) = i.row.hasModrm)
    (h : Ahead q t1 (modrmPart i.fields.modrm)) (hnone : t1.modrm = none) :
    readModRM q cand t1 = .ok { t1 with
      pos := t1.pos + i.fields.modrm.isSome.toNat
      modrm := i.fields.modrm.map bareModRM } := by
  rw [← fields_modrm_isSome] at hhas
  cases hm : i.fields.modrm with
  | none =>
    rw [hm] at hhas
    simp only [readModRM, hhas, Option.isSome_none, Bool.false_eq_true, if_false]
    rw [Option.map_none, ← hnone]
    rfl
  | some m =>
    rw [hm] at hhas h
    have hpeek : peek q t1 0 = .ok (m.mod ++ m.reg ++ m.rm) := h.peek rfl
    simp only [readModRM, hhas, Option.isSome_some, if_true, readByte_of_peek hpeek, splitModRM_append]
    rfl

/-- The dispatcher selects the row that reads the instruction, and has read no more than the ModRM byte. -/
theorem HeadRead.dispatchStage_ok (ha : admissible q.params.table = true)
    (hmem : withKeys i.row osz bs ∈ q.params.table)
    (hc : Checks q.bitness (withKeys i.row osz bs) i.fields.toParts) (h : HeadRead q i t t1)
    (hahead : Ahead q t1 (modrmPart i.fields.modrm)) :
    ∃ t2, dispatchStage q t = .ok (withKeys i.row osz bs, t2) ∧ t2.pos = t1.pos + i.fields.modrm.isSome.toNat ∧
      t2.ps = t1.ps ∧ t2.opcode = t1.opcode ∧ t2.modrm = i.fields.modrm.map bareModRM := by
  have hcand := h.mem_candidates hmem
  have hopcode : t1.opcode = some (opcodeByte i.row i.fields.low) := by rw [h.txn]
  have hnone : t1.modrm = none := by rw [h.txn]; rfl
  have hhas : (candidates q.params.table t1.ps (opcodeByte i.row i.fields.low)).any (·.hasModrm) = i.row.hasModrm :=
    candidates_any_hasModrm (r := withKeys i.row osz bs) ha hcand
  have hmodrm := readModRM_of_ahead hhas hahead hnone
  have hm : ((i.fields.modrm.map bareModRM).getD ModRM.zero) = (bareModRM i.fields.toParts.m) := by
    rw [Parts.m]
    cases i.fields.modrm <;> rfl
  have hkey : keyMatch t1.ps (opSize q.bitness t1.ps.w t1.ps.has66) (bareModRM i.fields.toParts.m)
      (withKeys i.row osz bs) = true := keyMatch_of_checks hc h.holds h.mp rfl rfl
  refine ⟨_, dispatchStage_of_row ha h.prefixes h.opcode hopcode hcand hmodrm ?_ ?_, rfl, rfl, rfl, rfl⟩
  · rw [leftRows, mem_inMode_selected, hm]
    refine ⟨hcand, hkey, ?_, hc.mode⟩
    have hlegacy : t1.ps.space = .legacy → i.row.l = none := fun hs => by
      obtain ⟨hspace, -⟩ := h.holds
      have hrow : i.row.space = .legacy := (fields_space i).symm.trans (hspace.trans hs)
      have hnokey := code_legacy_length i.code
      rw [show i.code.row = i.row from rfl, hrow] at hnokey
      exact Option.isNone_iff_eq_none.mp hnokey
    exact lengthMatch_of_checks hc h.holds hlegacy rfl (List.mem_filter.mpr ⟨hcand, hkey⟩)
  · rw [hm]
    exact featuresOk_of_checks hc h.holds rfl

/-! ## The later reads -/

/-- The bytes of a ModRM part after the ModRM byte: SIB and displacement. -/
def modrmTail (m : ModRM) : List Byte := (m.sib.map fun s => s.ss ++ s.idx ++ s.bs).toList ++ dispBytes m.disp

theorem modrmBytes_eq (m : ModRM) : modrmBytes m = (m.mod ++ m.reg ++ m.rm) :: modrmTail m := by
  rw [modrmBytes, List.append_assoc]
  rfl

/-- The SIB byte and the displacement that the encoder wrote complete the ModRM part (R225, R229, R233). -/
theorem addressStage_of_ahead {a : AddrSize} {t : Txn} {m : ModRM} (hm : t.modrm = some (bareModRM m))
    (hsib : wfSib a m = true) (hdisp : wfDisp a m = true) (h : Ahead q t (modrmTail m)) :
    addressStage q a t = .ok { t with pos := t.pos + (modrmTail m).length, modrm := some m } := by
  obtain ⟨mod, reg, rm, sib, disp⟩ := m
  have hfollows : sib.isSome = sibFollows a mod rm := beq_iff_eq.mp hsib
  have hsize : disp.size = dispLength a mod rm (sib.map (·.bs)) := beq_iff_eq.mp hdisp
  have hlen := (dispBytes_length disp).trans hsize
  cases sib with
  | none =>
    have hread := addressStage_without_sib hm rfl hfollows.symm hlen h.limit h.holds
    rwa [dispOf_dispBytes] at hread
  | some s =>
    have hahead : Ahead q t ((s.ss ++ s.idx ++ s.bs) :: dispBytes disp) := h
    have hread := addressStage_with_sib hm hfollows.symm (by rw [splitSib_append]; exact hlen)
      (by have hlim := hahead.limit; rw [List.length_cons] at hlim; omega) hahead.holds
    rw [dispOf_dispBytes, splitSib_append] at hread
    rw [hread, Nat.add_assoc, Nat.add_comm 1]
    rfl

/-- After the dispatcher the instruction's fields are read: its ModRM part, where it has one. -/
theorem addressStage_of_fields {a : AddrSize} {t : Txn} {o : Option ModRM} (hm : t.modrm = o.map bareModRM)
    (hsib : ∀ m, o = some m → wfSib a m = true ∧ wfDisp a m = true) (h : Ahead q t (o.elim [] modrmTail)) :
    addressStage q a t = .ok { t with pos := t.pos + (o.elim [] modrmTail).length, modrm := o } := by
  cases o with
  | none =>
    have hself : addressStage q a t = .ok t := by simp only [addressStage, hm, Option.map_none]
    obtain ⟨pos, ps, opcode, osz, asz, row, modrm, trail, mem, out⟩ := t
    obtain rfl : modrm = none := hm
    exact hself
  | some m =>
    obtain ⟨hs, hd⟩ := hsib m rfl
    exact addressStage_of_ahead hm hs hd h

/-- The reads after the dispatcher end with the ModRM part `o` and the trailing field `bs`, and leave the rest. -/
theorem exists_laterReads {a : AddrSize} {r : Row} {t : Txn} {o : Option ModRM} {bs : List Byte}
    (hm : t.modrm = o.map bareModRM) (haddr : ∀ m, o = some m → wfSib a m = true ∧ wfDisp a m = true)
    (hlen : bs.length = trailLength a r.ops) (h : Ahead q t (o.elim [] modrmTail ++ bs)) :
    ∃ t3 t4, addressStage q a t = .ok t3 ∧ trailStage q a r t3 = .ok t4 ∧
      t4.pos = t.pos + (o.elim [] modrmTail).length + bs.length ∧ t4.ps = t.ps ∧ t4.opcode = t.opcode ∧
      t4.modrm = o ∧ t4.trail = bs := by
  have hrest : Ahead q { t with pos := t.pos + (o.elim [] modrmTail).length, modrm := o } bs := h.right rfl
  exact ⟨_, _, addressStage_of_fields hm haddr h.left, trailStage_of_holdsBytes hlen hrest.limit hrest.holds, rfl, rfl,
    rfl, rfl, rfl⟩

end

/-! ## The whole decode -/

/-- The parts read are the instruction's fields, but for a register number that its row does not have. -/
theorem build_of_parts (i : Instr) {f : Parts} (hpfx : f.pfx = i.fields.pfx) (hmodrm : f.modrm = i.fields.modrm)
    (htrail : f.trail = i.fields.trail) (hlow : i.row.opmask = 0xF8 → f.low = i.fields.low) :
    Instr.build { toParts := f, code := i.code } = i := by
  have hfields : (Instr.build { toParts := f, code := i.code }).fields = (Instr.build i.fields).fields := by
    rw [fields_build, show i.fields = { toParts := i.fields.toParts, code := i.code } from rfl, fields_build, hpfx,
      htrail, Parts.m, Parts.m, hmodrm]
    congr 2
    split
    · exact hlow ‹_›
    · rfl
  rw [← build_fields (Instr.build { toParts := f, code := i.code }), hfields, build_fields, build_fields]

/-- The ModRM byte, where there is one, stands before the rest of the ModRM part. -/
theorem modrmPart_eq (o : Option ModRM) :
    ∃ head : List Byte, modrmPart o = head ++ o.elim [] modrmTail ∧ head.length = o.isSome.toNat := by
  cases o with
  | none => exact ⟨[], rfl, rfl⟩
  | some m => exact ⟨[_], modrmBytes_eq m, rfl⟩

section
variable {q : Source} {i : Instr} {osz : Option OpSize} {bs : List Bitness}

theorem HeadRead.ahead {t t1 : Txn} (hhead : HeadRead q i t t1) (h : Ahead q (Txn.initial q.start) (encode i)) :
    Ahead q t1 (modrmPart i.fields.modrm ++ i.fields.trail) := by
  rw [encode_eq, ← List.singleton_append, ← List.append_assoc] at h
  refine h.right ?_
  rw [hhead.txn, List.length_append, ← Nat.add_assoc]
  rfl

/-- The later reads need the SIB byte and the displacement that the addressing form of the mode has. -/
theorem Checks.address {b : Bitness} {r : Row} {f : Parts} (hc : Checks b r f) {m : ModRM} (hm : f.modrm = some m) :
    wfSib (f.pfx.addrSize b) m = true ∧ wfDisp (f.pfx.addrSize b) m = true := by
  have hfm : f.m = m := by rw [Parts.m, hm]; rfl
  have hne : f.modrm ≠ none := by simp [hm]
  rw [← hfm]
  exact ⟨hc.sib.resolve_left hne, hc.disp.resolve_left hne⟩

/-- A transaction that has read the fields of an instruction has decoded that instruction. -/
theorem decodedOf_txnParts (href : (withKeys i.row osz bs).isReference = true) {t : Txn}
    (hpfx : psPrefix t.ps = i.fields.pfx) (hop : t.opcode = some (opcodeByte i.row i.fields.low))
    (hmodrm : t.modrm = i.fields.modrm) (htrail : t.trail = i.fields.trail) :
    decodedOf (withKeys i.row osz bs) (txnParts t) = .instr i := by
  have hlow : i.row.opmask = 0xF8 → (txnParts t).low = i.fields.low := fun hmask => by
    rw [txnParts, hop]
    exact opcodeByte_low (code_op_and_mask i.code) hmask i.fields.low
  exact decodedOf_instr.mpr ⟨i.code, row_code i.code, href, (build_of_parts i hpfx hmodrm htrail hlow).symm⟩

/-- On the bytes of an instruction that a row of an admissible table reads in this mode the decoder answers the
instruction, `POS` just after its bytes. -/
theorem decode_of_row (ha : admissible q.params.table = true) (hmem : withKeys i.row osz bs ∈ q.params.table)
    (href : (withKeys i.row osz bs).isReference = true)
    (hc : Checks q.bitness (withKeys i.row osz bs) i.fields.toParts) (h : Ahead q (Txn.initial q.start) (encode i)) :
    ∃ t, decode q = .ok (.instr i, t) ∧ t.pos = q.start + (encode i).length := by
  obtain ⟨t, t1, hhead⟩ := exists_headRead hc h
  have hrest := hhead.ahead h
  obtain ⟨t2, hdis, hpos2, hps2, hop2, hmodrm2⟩ := hhead.dispatchStage_ok ha hmem hc hrest.left
  obtain ⟨head, hpart, hlen⟩ := modrmPart_eq i.fields.modrm
  have hlater : Ahead q t2 (i.fields.modrm.elim [] modrmTail ++ i.fields.trail) := by
    rw [hpart, List.append_assoc] at hrest
    exact hrest.right (by rw [hpos2, hlen])
  have hasz : addrSize q.bitness t2.ps.has67 = i.fields.pfx.addrSize q.bitness := by
    obtain ⟨-, -, h67, -⟩ := hhead.holds
    rw [Prefix.addrSize, h67, hps2]
  obtain ⟨t3, t4, haddr, htrail, hpos4, hps4, hop4, hmodrm4, htrail4⟩ :=
    exists_laterReads (r := withKeys i.row osz bs) hmodrm2 (fun m hm => hc.address hm) hc.trail hlater
  rw [← hasz] at haddr htrail
  have hdec := decode_of_stages hhead.prefixes hdis haddr htrail
  have hpfx : psPrefix t4.ps = i.fields.pfx := by rw [hps4, hps2, hhead.pfx]
  have hop : t4.opcode = some (opcodeByte i.row i.fields.low) := by rw [hop4, hop2, hhead.txn]
  rw [decodedOf_txnParts href hpfx hop hmodrm4 htrail4] at hdec
  have hpos1 : t1.pos = q.start + (prefixBytes i.row i.fields.pfx).length + 1 := by rw [hhead.txn]
  refine ⟨t4, hdec, ?_⟩
  rw [encode_eq, hpart]
  simp only [hpos4, hpos2, hpos1, List.length_append, List.length_cons, hlen]
  omega

/-- A reference row of a table differs from the row of its code in two keys at most. -/
theorem exists_withKeys {r : Row} (hcode : r.code = .ref i.code) (href : r.isReference = true) :
    ∃ osz bs, r = withKeys i.row osz bs := by
  refine ⟨r.osz, r.bitness, ?_⟩
  rw [show i.row = i.code.row from rfl, ← isReference_eq hcode href]

/-- The round trip (30_encoding.md section 1): on the bytes of a well-formed instruction the decoder answers the
instruction, `POS` just after them. -/
theorem decode_encode (ha : admissible q.params.table = true) (hwf : WellFormedIn q.params q.bitness i = true)
    (h : HoldsBytes q.buf q.start (encode i)) :
    ∃ t, decode q = .ok (.instr i, t) ∧ t.pos = q.start + (encode i).length := by
  simp only [WellFormedIn, WellFormedBy, List.any_eq_true, Bool.and_eq_true, decide_eq_true_eq] at hwf
  obtain ⟨r, hmem, ⟨hcode, href⟩, hchecks, hsize⟩ := hwf
  obtain ⟨osz, bs, rfl⟩ := exists_withKeys hcode href
  have hlimit : (encode i).length ≤ maxLen := by
    rw [encode_length]
    exact of_decide_eq_true hsize
  exact decode_of_row ha hmem href (checks_of_wfChecks hchecks) ⟨Nat.add_le_add_left hlimit q.start, h⟩

end

end Sys2Proof.Proofs
end

section
/-! PROOFS. The caller's loop (spec R25, R335, R376): a step on the bytes of a well-formed instruction answers its record,
the caller's next request starts just after those bytes, and so the loop answers a list of instructions in order. -/

namespace Sys2Proof.Proofs

open Sys2Proof.Machine Sys2Proof.Laws

/-- A buffer's request for the instruction at `off`, where the buffer's own first index stands at `ip` (R25). -/
def requestAt (ip : Ip) (off : Nat) (b : Bitness) : Request :=
  { start := off, ip := ip + BitVec.ofNat 64 off, bitness := b }

/-- The block with that request waiting. -/
def waitingAt (prm : Params) (buf : Memory) (ip : Ip) (off : Nat) (b : Bitness) : State :=
  { params := prm, buf := buf, request := some (requestAt ip off b), txn := none, response := none }

/-- The transaction of `i` at `off`, `POS` just after its bytes. -/
def txnAfter (off : Nat) (i : Instr) : Txn := { Txn.initial off with pos := off + (encode i).length }

/-- `out` is what the meaning of an instruction answers in its mode at `off`: its code, the length of its encoding, and
the record of the meaning. -/
structure AnswersAt (prm : Params) (buf : Memory) (ip : Ip) (off : Nat) (x : Bitness × Instr) (out : Instruction) :
    Prop where
  code : out.code = .ref x.2.code
  byteLength : out.byteLength = (encode x.2).length
  response : responseOf (exec x.2 ((waitingAt prm buf ip off x.1).withTxn (txnAfter off x.2))) = some (.ok out)

/-- The record of a row reads of the transaction no more than `POS`. -/
theorem rowRecord_congr {s : State} {q : Request} {t t' : Txn} (h : t.pos = t'.pos) (r : Row) (f : Parts) :
    rowRecord s q t r f = rowRecord s q t' r f := by
  simp only [rowRecord, answerRecord, envOf, h]

/-- A meaning without LOCK answers the record of its row (R272, R278). -/
theorem exec_of_no_lock {s : State} {q : Request} {t : Txn} {i : Instr} (hin : InTxn s q t)
    (hlock : i.fields.pfx.lock = false) :
    exec i s = .next (done s (.ok (rowRecord s q t i.row i.fields.toParts))) := by
  rw [exec_eq_assembleRow]
  exact assembleRow_of_lockLegal hin fun htrue => absurd htrue (by simp [hlock])

section
variable {prm : Params} {buf : Memory} {ip : Ip} {off : Nat} {b : Bitness} {i : Instr}

theorem step_waitingAt (ha : admissible prm.table = true) (hwf : WellFormedIn prm b i = true)
    (hlock : i.fields.pfx.lock = false) (h : HoldsBytes buf off (encode i)) :
    ∃ out, step (waitingAt prm buf ip off b) = .next (done (waitingAt prm buf ip off b) (.ok out)) ∧
      AnswersAt prm buf ip off (b, i) out := by
  have hp : Pending (waitingAt prm buf ip off b) (requestAt ip off b) := ⟨rfl, rfl⟩
  obtain ⟨t, hdec, hpos⟩ := decode_encode (q := (waitingAt prm buf ip off b).source (requestAt ip off b)) ha hwf h
  have hpos : t.pos = (txnAfter off i).pos := hpos
  refine ⟨rowRecord (waitingAt prm buf ip off b) (requestAt ip off b) (txnAfter off i) i.row i.fields.toParts, ?_,
    ⟨row_code i.code, Nat.add_sub_cancel_left .., ?_⟩⟩
  · rw [step_of_decode_ok hp hdec, runDecoded_instr, exec_of_no_lock (t := t) ⟨rfl, rfl⟩ hlock, rowRecord_congr hpos]
    rfl
  · rw [exec_of_no_lock (t := txnAfter off i) ⟨rfl, rfl⟩ hlock]
    rfl

/-- The caller's next request starts and stands as many bytes further on as the record is long (R25, R376). -/
theorem callerNext_waitingAt (out : Instruction) (b' : Bitness) :
    (done (waitingAt prm buf ip off b) (.ok out)).callerNext b' = waitingAt prm buf ip (off + out.byteLength) b' := by
  simp only [State.callerNext, done, waitingAt, requestAt, State.submit, BitVec.ofNat_add, BitVec.add_assoc]

end

section
variable {s : State} {out : Instruction}

theorem callerRun_nil_of_step (h : step s = .next (done s (.ok out))) : callerRun [] s = [.ok out] := by
  rw [callerRun, h]
  rfl

theorem callerRun_cons_of_step (h : step s = .next (done s (.ok out))) (b : Bitness) (bs : List Bitness) :
    callerRun (b :: bs) s = .ok out :: callerRun bs ((done s (.ok out)).callerNext b) := by
  rw [callerRun, h]
  rfl

end

/-! ## A list of instructions -/

/-- The responses are the answers to the instructions of a list in order, each at the place where its bytes stand when the
first one's stand at `off`. -/
inductive AnsweredFrom (prm : Params) (buf : Memory) (ip : Ip) :
    Nat → List (Bitness × Instr) → List Response → Prop
  | nil (off : Nat) : AnsweredFrom prm buf ip off [] []
  | cons {off : Nat} {x : Bitness × Instr} {xs : List (Bitness × Instr)} {out : Instruction} {rs : List Response}
      (first : AnswersAt prm buf ip off x out) (rest : AnsweredFrom prm buf ip (off + (encode x.2).length) xs rs) :
      AnsweredFrom prm buf ip off (x :: xs) (.ok out :: rs)

section
variable {prm : Params} {buf : Memory} {ip : Ip}

/-- The caller's loop on the bytes of a list of instructions, from the request for the first of them on. -/
theorem answeredFrom_callerRun (ha : admissible prm.table = true) {off : Nat} {b : Bitness} {i : Instr}
    {xs : List (Bitness × Instr)}
    (hwf : ∀ x ∈ (b, i) :: xs, WellFormedIn prm x.1 x.2 = true ∧ x.2.fields.pfx.lock = false)
    (h : HoldsBytes buf off (((b, i) :: xs).flatMap fun x => encode x.2)) :
    AnsweredFrom prm buf ip off ((b, i) :: xs) (callerRun (xs.map Prod.fst) (waitingAt prm buf ip off b)) := by
  induction xs generalizing off b i with
  | nil =>
    obtain ⟨hi, hlock⟩ := hwf (b, i) List.mem_cons_self
    obtain ⟨hfirst, -⟩ := holdsBytes_append.mp (List.flatMap_cons ▸ h)
    obtain ⟨out, hstep, hanswer⟩ := step_waitingAt (ip := ip) ha hi hlock hfirst
    rw [List.map_nil, callerRun_nil_of_step hstep]
    exact .cons hanswer (.nil _)
  | cons y ys ih =>
    obtain ⟨hi, hlock⟩ := hwf (b, i) List.mem_cons_self
    obtain ⟨hfirst, hrest⟩ := holdsBytes_append.mp (List.flatMap_cons ▸ h)
    obtain ⟨out, hstep, hanswer⟩ := step_waitingAt (ip := ip) ha hi hlock hfirst
    rw [List.map_cons, callerRun_cons_of_step hstep, callerNext_waitingAt, hanswer.byteLength]
    exact .cons hanswer (ih (fun x hx => hwf x (List.mem_cons_of_mem _ hx)) hrest)

/-- Answer `k` is the answer to instruction `k`, whose bytes stand after those of the `k` before it. -/
theorem AnsweredFrom.get {off : Nat} {xs : List (Bitness × Instr)} {rs : List Response}
    (h : AnsweredFrom prm buf ip off xs rs) {k : Nat} {x : Bitness × Instr} (hx : xs[k]? = some x) :
    ∃ out, rs[k]? = some (.ok out) ∧
      AnswersAt prm buf ip (off + ((xs.take k).map fun y => (encode y.2).length).sum) x out := by
  induction h generalizing k with
  | nil off => cases hx
  | @cons off y ys out rs hfirst _ ih =>
    cases k with
    | zero =>
      obtain rfl : y = x := Option.some.inj hx
      exact ⟨out, rfl, hfirst⟩
    | succ k =>
      obtain ⟨out', hget, hanswer⟩ := ih hx
      rw [Nat.add_assoc] at hanswer
      exact ⟨out', hget, hanswer⟩

theorem AnsweredFrom.length_eq {off : Nat} {xs : List (Bitness × Instr)} {rs : List Response}
    (h : AnsweredFrom prm buf ip off xs rs) : rs.length = xs.length := by
  induction h with
  | nil off => rfl
  | cons _ _ ih => rw [List.length_cons, List.length_cons, ih]

end

theorem holdsBytes_ofBytes (bs : List Byte) : HoldsBytes (Memory.ofBytes bs) 0 bs := fun k _ => by
  rw [Nat.zero_add, ofBytes_read]

/-- Settles O42: the loop begins with the request at 0, and its answers are those of the list, taken one by one. -/
theorem callerRunDecodesTheEncodedList : Obligations.CallerRunDecodesTheEncodedList := by
  unfold Obligations.CallerRunDecodesTheEncodedList
  intro prm ip b i xs ha hwf s run
  have hs : s = waitingAt prm s.buf ip 0 b := by simp [s, waitingAt, requestAt]
  have hrun : AnsweredFrom prm s.buf ip 0 ((b, i) :: xs) run := by
    have hanswered := answeredFrom_callerRun (ip := ip) ha hwf (holdsBytes_ofBytes _)
    rwa [← hs] at hanswered
  refine ⟨hrun.length_eq, fun k x hx => ?_⟩
  obtain ⟨out, hget, hanswer⟩ := hrun.get hx
  rw [Nat.zero_add] at hanswer
  exact ⟨out, hget, hanswer.code, hanswer.byteLength, hanswer.response⟩

end Sys2Proof.Proofs
end

section
/-! PROOFS. The round trip in each space, the bounds of a decode, and the displacement as an integer (spec R93, R234, R236). -/

namespace Sys2Proof.Proofs

open Sys2Proof.Machine Sys2Proof.Laws

/-! ## The round trip and the bounds -/

/-- Settles O21: the round trip holds in every space, the Legacy space among them. -/
theorem decodeOfEncodeLegacy : Obligations.DecodeOfEncodeLegacy := fun _ _ ha _ hwf h => decode_encode ha hwf h

/-- Settles O22: the round trip on a VEX instruction. -/
theorem decodeOfEncodeVex : Obligations.DecodeOfEncodeVex := fun _ _ ha _ hwf h => decode_encode ha hwf h

/-- Settles O23: the round trip on an EVEX instruction. -/
theorem decodeOfEncodeEvex : Obligations.DecodeOfEncodeEvex := fun _ _ ha _ hwf h => decode_encode ha hwf h

/-- Settles O26: every byte is read inside the length limit and the buffer, and the opcode is one of them. -/
theorem decodeReadsWithinBounds : Obligations.DecodeReadsWithinBounds := by
  unfold Obligations.DecodeReadsWithinBounds
  intro q d t h
  obtain ⟨r, hd, -⟩ := decode_decodesTo h
  exact ⟨hd.start_lt, hd.le_limit, hd.le_len⟩

/-! ## The displacement -/

/-- The unsigned value of a sign-extended field is its signed value modulo the width (R234). -/
theorem signExtend_toNat {n : Nat} (w : Nat) (d : BitVec n) : ((d.signExtend w).toNat : Int) = d.toInt % 2 ^ w := by
  have hpos : (0 : Int) < ((2 ^ w : Nat) : Int) := Int.natCast_pos.mpr (Nat.two_pow_pos w)
  rw [BitVec.signExtend, BitVec.toNat_ofInt, Int.toNat_of_nonneg (Int.emod_nonneg _ hpos.ne'), Int.natCast_pow]
  rfl

/-- A one-byte field is scaled before it wraps (R234, R236). -/
theorem dispValue_d8 (a : AddrSize) (n : Nat) (d : BitVec 8) :
    (dispValue a n (.d8 d) : Int) = (d.toInt * n) % 2 ^ a.bits := by
  simp only [dispValue, Int.natCast_mod, Int.natCast_mul, Int.natCast_pow, Int.cast_ofNat_Int, signExtend_toNat]
  exact (Int.mod_modEq d.toInt _).mul_right _

theorem dispFactor_eq (y : Body) (p : Prefix) (m : ModRM) :
    dispFactor y p m = if p.bcst = true ∧ m.mod ≠ 3 then y.bcst else y.n := by
  simp only [dispFactor, bcstOn, Bool.and_eq_true, decide_eq_true_eq]

/-- Settles O13: each field size by the value of its sign extension; `N` is the factor of R236. -/
theorem displacementScaledAndWrapped : Obligations.DisplacementScaledAndWrapped := by
  unfold Obligations.DisplacementScaledAndWrapped
  intro n
  refine ⟨fun d => ⟨dispValue_d8 .a16 n d, dispValue_d8 .a32 n d, dispValue_d8 .a64 n d⟩, fun d => ⟨?_, ?_⟩,
    fun d => ?_, fun a => rfl, dispFactor_eq⟩
  · exact congrArg BitVec.toNat (BitVec.signExtend_eq d)
  · exact signExtend_toNat 64 d
  · exact congrArg BitVec.toNat (BitVec.signExtend_eq d)

end Sys2Proof.Proofs
end

section
/-! PROOFS. Register numbers (spec R221, R222), and the registers of a result outside 64-bit mode (R162, R171, R315): no
extension bit is left there, so every register number that an operand shape forms is below 8. -/

namespace Sys2Proof.Proofs

open Sys2Proof.Machine Sys2Proof.Laws

/-! ## Register numbers -/

/-- A bit in front of a field is its leading binary digit. -/
theorem ofBool_append_toNat {n : Nat} (b : Bool) (v : BitVec n) :
    (BitVec.ofBool b ++ v).toNat = 2 ^ n * b.toNat + v.toNat := by
  rw [BitVec.toNat_append, BitVec.toNat_ofBool, Nat.shiftLeft_eq, Nat.mul_comm, ← Nat.two_pow_add_eq_or_of_lt v.isLt]

/-- Two extension bits above a three-bit field (R221, R222). -/
theorem extended_number_toNat (b1 b0 : Bool) (f : BitVec 3) :
    (BitVec.ofBool b1 ++ BitVec.ofBool b0 ++ f).toNat = 16 * b1.toNat + 8 * b0.toNat + f.toNat := by
  revert b1 b0 f
  decide

theorem general_number_toNat (b : Bool) (f : BitVec 3) :
    (0#1 ++ BitVec.ofBool b ++ f).toNat = 8 * b.toNat + f.toNat := by
  simpa using extended_number_toNat false b f

theorem plain_number_toNat (f : BitVec 3) : (0#2 ++ f).toNat = f.toNat := by
  simpa using extended_number_toNat false false f

/-- Settles O9: class by class, the extension bits in front of the field. -/
theorem registerNumbersByClass : Obligations.RegisterNumbersByClass := by
  unfold Obligations.RegisterNumbersByClass
  intro p f
  refine ⟨?_, ?_, ?_⟩
  all_goals simp only [List.forall_mem_cons, List.not_mem_nil, false_implies, implies_true, and_true, regNumber, rmNumber]
  · simp only [general_number_toNat, and_self]
  · by_cases hs : p.space = .evex
    · simp [hs, extended_number_toNat]
    · simp [hs, extended_number_toNat, general_number_toNat]
  · simp only [plain_number_toNat, and_self]

/-! ## The prefix part -/

/-- No REX byte, and every extension bit 0 (R162, R171). -/
structure Unextended (p : Prefix) : Prop where
  rex : p.rexPresent = false
  r : p.r = false
  x : p.x = false
  b : p.b = false
  rp : p.rp = false
  vp : p.vp = false
  vvvv : p.vvvv.getLsbD 3 = false

/-- The checks on REX and on extension bits leave no other prefix part outside 64-bit mode. -/
theorem unextended_of_checks {b : Bitness} {p : Prefix} (h64 : b ≠ .b64) (hrex : wfRex b p = true)
    (hext : (wfExt b p || p.space == .legacy) = true) : Unextended p := by
  have hnorex : p.rexPresent = false := by simpa [wfRex, h64] using hrex
  cases p with
  | legacy p =>
    have hnone : p.rex = none := by simpa [Prefix.rexPresent] using hnorex
    constructor <;> simp [Prefix.rexPresent, Prefix.r, Prefix.x, Prefix.b, Prefix.rp, Prefix.vp, Prefix.vvvv, hnone]
  | vex p | evex p =>
    have hbits := (Bool.or_eq_true_iff.mp hext).resolve_right (by simp [Prefix.space])
    simp only [wfExt, beq_false_of_ne h64, Bool.false_or, Bool.not_eq_true', Bool.or_eq_false_iff] at hbits
    obtain ⟨⟨⟨⟨⟨hr, hx⟩, hb⟩, hrp⟩, hvp⟩, hvvvv⟩ := hbits
    exact ⟨hnorex, hr, hx, hb, hrp, hvp, hvvvv⟩

/-- What the decoder has read outside 64-bit mode has no extension bit. -/
theorem unextended_of_decodedBy {q : Source} {r : Row} {t : Txn} (h64 : q.bitness ≠ .b64) (h : DecodedBy q r t) :
    Unextended (txnParts t).pfx :=
  unextended_of_checks h64 h.scanned.wfRex_psPrefix h.scanned.wfExt_psPrefix

/-! ## Registers by number -/

/-- The registers numbered below 8, without REX, are those that need no extension bit (R37, R38). -/
theorem regOf_not_extended (c : RegClass) {n : BitVec 5} (h : n.toNat < 8) :
    Register.extended (regOf c n false) = false := by
  have hwidth : (n.setWidth 4).toNat = n.toNat := by simp; omega
  have hgpr (bits : Nat) : (generalNumber bits n).toNat < 8 := by
    rwa [generalNumber_of_lt bits (by omega), hwidth]
  have hbyte : ∀ k : BitVec 4, k.toNat < 8 → Register.extended (.r8 (reg8Of k false)) = false := by decide
  cases c with
  | r8 => exact hbyte _ (hgpr 8)
  | r16 | r32 | r64 => simpa [regOf, Register.extended] using hgpr _
  | mm | k => rfl
  | xmm | ymm | zmm => simpa [regOf, Register.extended] using h

theorem addrReg_not_extended (a : AddrSize) {n : BitVec 4} (h : n.toNat < 8) : Register.extended (addrReg a n) = false := by
  cases a <;> simpa [addrReg, Register.extended] using h

section
variable {p : Prefix} (hp : Unextended p)
include hp

theorem regNumber_lt (c : RegClass) (f : BitVec 3) : (regNumber c p f).toNat < 8 := by
  have hf := f.isLt
  cases c with
  | r8 | r16 | r32 | r64 => simp only [regNumber, general_number_toNat, hp.r, Bool.toNat_false]; omega
  | xmm | ymm | zmm => simp only [regNumber, extended_number_toNat, hp.r, hp.rp, Bool.toNat_false]; omega
  | mm | k => simp only [regNumber, plain_number_toNat]; omega

theorem rmNumber_lt (c : RegClass) (f : BitVec 3) : (rmNumber c p f).toNat < 8 := by
  have hf := f.isLt
  cases c with
  | r8 | r16 | r32 | r64 => simp only [rmNumber, general_number_toNat, hp.b, Bool.toNat_false]; omega
  | xmm | ymm | zmm =>
    simp only [rmNumber, extended_number_toNat, hp.b, hp.x, Bool.and_false, Bool.toNat_false]; omega
  | mm | k => simp only [rmNumber, plain_number_toNat]; omega

theorem vvvvNumber_lt : (BitVec.ofBool p.vp ++ p.vvvv).toNat < 8 := by
  have hlow : ∀ v : BitVec 4, v.getLsbD 3 = false → (BitVec.ofBool false ++ v).toNat < 8 := by decide
  rw [hp.vp]
  exact hlow _ hp.vvvv

theorem opregNumber_lt (low : BitVec 3) : (0#1 ++ BitVec.ofBool p.b ++ low).toNat < 8 := by
  have hlow := low.isLt
  rw [general_number_toNat, hp.b, Bool.toNat_false]
  omega

/-! ## Registers of an operand -/

theorem baseReg_not_extended {b : Bitness} {a : AddrSize} {m : ModRM} {x : Register} (hx : baseReg b a p m = some x) :
    Register.extended x = false := by
  have hf := (baseField m).isLt
  unfold baseReg at hx
  split at hx
  · split at hx
    · cases hx
    · split at hx
      · cases hx
        split <;> rfl
      · cases hx
  · cases hx
    refine addrReg_not_extended a ?_
    rw [hp.b, ofBool_append_toNat, Bool.toNat_false]
    omega

theorem indexReg_not_extended {a : AddrSize} {m : ModRM} {x : Register} (hx : indexReg a p m = some x) :
    Register.extended x = false := by
  unfold indexReg at hx
  split at hx
  · cases hx
  · rename_i y hsib
    have hf := y.idx.isLt
    dsimp only at hx
    split at hx
    · cases hx
    · cases hx
      refine addrReg_not_extended a ?_
      rw [hp.x, ofBool_append_toNat, Bool.toNat_false]
      omega

omit hp in
/-- The registers of 16-bit addressing (R224) are named without extension bits. -/
theorem register16_not_extended (mod : BitVec 2) (rm : BitVec 3) :
    (base16 mod rm).all (fun x => !Register.extended x) = true ∧
      (index16 rm).all (fun x => !Register.extended x) = true := by
  revert mod rm
  decide

/-- Base and index of a memory operand (R224, R227 to R231). -/
theorem resolveMem_not_extended (b : Bitness) (n : Nat) (m : ModRM) {x : Register}
    (hx : x ∈ (resolveMem b p n m).base.toList ++ (resolveMem b p n m).index.toList) : Register.extended x = false := by
  obtain ⟨hbase, hindex⟩ := register16_not_extended m.mod m.rm
  rw [List.mem_append, Option.mem_toList, Option.mem_toList] at hx
  by_cases ha : p.addrSize b = .a16
  · rw [resolveMem_a16 n m ha] at hx
    rcases hx with hx | hx
    · simpa [show base16 m.mod m.rm = some x from hx] using hbase
    · simpa [show index16 m.rm = some x from hx] using hindex
  · rw [resolveMem_of_ne_a16 n m ha] at hx
    rcases hx with hx | hx
    · exact baseReg_not_extended hp hx
    · exact indexReg_not_extended hp hx

/-- No shape but `fixed` names a register that only extension bits reach (R261 to R269). -/
theorem shapeOperand_not_extended {e : Env} {r : Row} {low : BitVec 3} {s : Shape} {bs : List Byte} {b : Bitness} {n : Nat}
    (hpfx : e.pfx = p) (hmem : e.mem = resolveMem b p n e.modrm)
    (hfixed : ∀ x, s = .fixed x → Register.extended x = false) :
    ∀ x ∈ (shapeOperand e r low s bs).registers, Register.extended x = false := by
  subst hpfx
  intro x hx
  have hreg {c : RegClass} {k : BitVec 5} {rexp : Bool} (hrex : rexp = false) (hk : k.toNat < 8)
      (hx : x ∈ Operand.registers (.register (regOf c k rexp))) : Register.extended x = false := by
    subst hrex
    rw [List.mem_singleton.mp hx]
    exact regOf_not_extended c hk
  have hmemory {z : MemorySize} (hx : x ∈ Operand.registers (.memory e.mem z)) : Register.extended x = false := by
    rw [hmem] at hx
    exact resolveMem_not_extended hp b n e.modrm hx
  cases s with
  | reg c => exact hreg hp.rex (regNumber_lt hp c _) hx
  | rm c =>
    by_cases h3 : e.modrm.mod = 3
    · rw [show shapeOperand e r low (.rm c) bs = _ from env_rm_of_reg h3 c _] at hx
      exact hreg hp.rex (rmNumber_lt hp c _) hx
    · rw [show shapeOperand e r low (.rm c) bs = _ from env_rm_of_mem h3 c _] at hx
      exact hmemory hx
  | mem => exact hmemory hx
  | vvvv c => exact hreg rfl (vvvvNumber_lt hp) hx
  | opreg c => exact hreg hp.rex (opregNumber_lt hp low) hx
  | fixed y => rw [List.mem_singleton.mp hx]; exact hfixed y rfl
  | imm n w sx => cases sx <;> cases hx
  | rel n w => cases hx
  | moffs =>
    rw [shapeOperand_moffs] at hx
    cases hm : Moffs.ofBytes bs <;> simp [Env.moffs, moffsDesc, Operand.registers, hm] at hx

end

/-- The operands of a row's record: its shapes in order, then kind `None` (R260, R276). -/
theorem rowRecord_not_extended {s : State} {q : Request} {t : Txn} {r : Row} {f : Parts} (hp : Unextended f.pfx)
    (hfixed : ∀ x, Shape.fixed x ∈ r.ops → Register.extended x = false) :
    ∀ o ∈ (rowRecord s q t r f).operands, ∀ x ∈ o.registers, Register.extended x = false := by
  intro o ho x hx
  rw [rowRecord_operands, operandSlots] at ho
  rcases List.mem_append.mp (List.mem_of_mem_take ho) with ho | ho
  · obtain ⟨y, hy, rfl⟩ := List.mem_map.mp ho
    have hshape : y.1 ∈ r.ops := trailSlices_shapes (f.pfx.addrSize q.bitness) f.trail r.ops ▸ List.mem_map_of_mem hy
    exact shapeOperand_not_extended hp rfl rfl (fun z hz => hfixed z (hz ▸ hshape)) x hx
  · rw [List.eq_of_mem_replicate ho] at hx
    cases hx

/-- Settles O41: what the decoder leaves outside 64-bit mode has no extension bit, and no operand shape makes one up. -/
theorem noExtendedRegisterOutside64 : Obligations.NoExtendedRegisterOutside64 := by
  unfold Obligations.NoExtendedRegisterOutside64
  intro s s' q out hp h64 hfixed h hr
  obtain ⟨r, t, hdec, hto, rfl⟩ := step_ok hp h hr
  obtain ⟨r', hd, -⟩ := decodedBy_of_decode hdec
  exact rowRecord_not_extended (unextended_of_decodedBy h64 hd) (hfixed r hto.mem)

end Sys2Proof.Proofs
end

section
/-! PROOFS. The encoder writes no more than was read (spec R90 to R111, R160 to R169, R191, R229, R233): each stage of a decode
that succeeds has read at least the bytes that the encoder writes for what the stage found. -/

namespace Sys2Proof.Proofs

open Sys2Proof.Machine Sys2Proof.Laws

/-! ## Prefix bytes -/

/-- The classes of prefix bytes that `PS` holds, REX among them: one byte each in the shortest encoding (R91, R94). -/
def classCount (ps : PrefixState) : Nat :=
  countTrue [ps.has66, ps.has67, ps.seg.isSome, ps.rep.isSome, ps.lock, ps.rexPresent]

theorem classCount_eq (ps : PrefixState) : classCount ps = ps.has66.toNat + ps.has67.toNat + ps.seg.isSome.toNat +
    ps.rep.isSome.toNat + ps.lock.toNat + ps.rexPresent.toNat := by
  simp only [classCount, countTrue, List.map_cons, List.map_nil, List.sum_cons, List.sum_nil]
  omega

/-- A legacy prefix byte sets one class and drops REX (R160, R161). -/
theorem classCount_setClass_le {v : Byte} (h : v ∈ legacyPrefixBytes) (ps : PrefixState) :
    classCount (clearRex (setClass v ps)) ≤ classCount ps + 1 := by
  have h66 := ps.has66.toNat_le
  have h67 := ps.has67.toNat_le
  have hseg := ps.seg.isSome.toNat_le
  have hrep := ps.rep.isSome.toNat_le
  have hlock := ps.lock.toNat_le
  simp only [legacyPrefixBytes, List.mem_cons, List.not_mem_nil, or_false] at h
  rcases h with rfl | rfl | rfl | rfl | rfl | rfl | rfl | rfl | rfl | rfl | rfl
  all_goals
    simp [classCount_eq, setClass, segPrefixes, repPrefixes, List.lookup]
    omega

/-- Each byte that the scan loop takes adds at most one class (R160 to R162). -/
theorem classCount_scanByte_le {b : Bitness} {v : Byte} {ps ps' : PrefixState} (h : scanByte b v ps = some ps') :
    classCount ps' ≤ classCount ps + 1 := by
  by_cases hv : v ∈ legacyPrefixBytes
  · rw [scanByte_of_mem hv] at h
    cases h
    exact classCount_setClass_le hv ps
  · rw [scanByte_of_not_mem hv, (legacyPrefix_of_not_mem hv ps).2] at h
    split at h
    · cases h
      simp only [classCount_eq, setRex_has66, setRex_has67, setRex_seg, setRex_rep, setRex_lock, setRex_rexPresent,
        Bool.toNat_true]
      omega
    · cases h

theorem classCount_scanPrefixes_le {q : Source} {fuel : Nat} {t t' : Txn} (h : scanPrefixes q fuel t = .ok t') :
    t.pos + classCount t'.ps ≤ t'.pos + classCount t.ps := by
  induction fuel generalizing t with
  | zero => cases h
  | succ fuel ih =>
    obtain ⟨v, -, ⟨-, rfl⟩ | ⟨ps, hbyte, hrest⟩⟩ := scanPrefixes_ok h
    · exact le_rfl
    · have hone := classCount_scanByte_le hbyte
      have hmore : t.pos + 1 + classCount t'.ps ≤ t'.pos + classCount ps := ih hrest
      omega

/-! ## Escape and payload -/

/-- The classes of prefix bytes that stand before an escape (R92). -/
def commonCount (ps : PrefixState) : Nat := countTrue [ps.has67, ps.seg.isSome, ps.lock]

theorem commonCount_eq (ps : PrefixState) :
    commonCount ps = ps.has67.toNat + ps.seg.isSome.toNat + ps.lock.toNat := by
  simp only [commonCount, countTrue, List.map_cons, List.map_nil, List.sum_cons, List.sum_nil]
  omega

theorem commonCount_le_classCount (ps : PrefixState) : commonCount ps ≤ classCount ps := by
  rw [commonCount_eq, classCount_eq]
  omega

/-- The bytes of the shortest escape and payload with the fields of `PS` (R97 to R101). -/
def payloadSize (ps : PrefixState) : Nat :=
  match ps.space with
  | .legacy => 0
  | .vex => if ps.w || ps.x || ps.b || ps.map != .m0F then 3 else 2
  | .evex => 4

theorem payloadSize_vex_le {ps : PrefixState} (h : ps.space = .vex) : payloadSize ps ≤ 3 := by
  simp only [payloadSize, h]
  split <;> omega

/-- The bytes of the shortest prefix part of `PS`, with escape and payload (R90 to R92). -/
def prefixSize (ps : PrefixState) : Nat :=
  match ps.space with
  | .legacy => classCount ps
  | .vex => commonCount ps + payloadSize ps
  | .evex => commonCount ps + payloadSize ps

/-- The escape and its payload take the bytes of their form, and leave the classes of prefix bytes alone (R166 to R168). -/
theorem readEscape_size {q : Source} {e : Escape} {t t' : Txn} (h : readEscape q e t = .ok t') :
    t.pos + payloadSize t'.ps ≤ t'.pos ∧ commonCount t'.ps = commonCount t.ps := by
  unfold readEscape at h
  split at h
  · split at h
    · rename_i hread
      cases h
      obtain ⟨-, rfl⟩ := readBytes_ok hread
      exact ⟨le_rfl, rfl⟩
    · cases h
    · cases h
  · split at h
    · rename_i hread
      obtain ⟨-, rfl⟩ := readBytes_ok hread
      split at h
      · cases h
      · cases h
        exact ⟨Nat.add_le_add_left (payloadSize_vex_le rfl) t.pos, rfl⟩
    · cases h
    · cases h
  · split at h
    · rename_i hread
      obtain ⟨-, rfl⟩ := readBytes_ok hread
      split at h
      · split at h
        · cases h
        · split at h
          · cases h
            exact ⟨le_rfl, rfl⟩
          · cases h
      · cases h
    · cases h
    · cases h

/-- Clearing extension bits makes no payload longer. -/
theorem payloadSize_clearExtension_le (ps : PrefixState) : payloadSize (clearExtension ps) ≤ payloadSize ps := by
  simp only [payloadSize, clearExtension]
  cases ps.space with
  | legacy => exact le_rfl
  | vex =>
    cases ps.b with
    | false => exact le_rfl
    | true => simp; split <;> omega
  | evex => exact le_rfl

theorem escapeStage_size {q : Source} {e : Escape} {t t' : Txn} (h : escapeStage q e t = .ok t') :
    t.pos + payloadSize t'.ps ≤ t'.pos ∧ commonCount t'.ps = commonCount t.ps := by
  obtain ⟨t1, ps2, ps3, hread, hlegacy, hext, rfl⟩ := escapeStage_ok h
  obtain ⟨hpay, hcommon⟩ := readEscape_size hread
  obtain rfl := legacyBeforeEscape_ok hlegacy
  rcases extensionBits_ok hext with ⟨rfl, -⟩ | rfl
  · exact ⟨hpay, hcommon⟩
  · exact ⟨(Nat.add_le_add_left (payloadSize_clearExtension_le t1.ps) t.pos).trans hpay, hcommon⟩

/-- The prefix scanner has read at least the shortest prefix part of the `PS` that it leaves. -/
theorem prefixStage_size {q : Source} {t : Txn} (h : prefixStage q (Txn.initial q.start) = .ok t) :
    q.start + prefixSize t.ps ≤ t.pos := by
  obtain ⟨t1, hscan, hend⟩ := prefixStage_ok h
  have hclasses : q.start + classCount t1.ps ≤ t1.pos := classCount_scanPrefixes_le hscan
  have hlegacy := (legacyState_of_scanPrefixes (legacyState_initial _) hscan).space
  rcases hend with ⟨-, rfl⟩ | ⟨e, htest, hesc⟩
  · rw [prefixSize, hlegacy]
    exact hclasses
  · obtain ⟨hpay, hcommon⟩ := escapeStage_size hesc
    have hle := commonCount_le_classCount t1.ps
    have hesc := (escapedState_of_escapeStage (legacyState_of_scanPrefixes (legacyState_initial _) hscan)
      (payload_top_bits_of_escapeTest htest) hesc).space
    cases hs : t.ps.space with
    | legacy => exact absurd hs hesc
    | vex => simp only [prefixSize, hs]; omega
    | evex => simp only [prefixSize, hs]; omega

/-! ## Opcode, ModRM part and trailing field -/

/-- The prefix part with the opcode is as long as the prefix part, the escapes of a Legacy map, and one byte more. -/
theorem headSize_psPrefix (r : Row) {ps : PrefixState} (hmap : r.map = ps.map) :
    headSize r (psPrefix ps) = prefixSize ps + (if ps.space = .legacy then (mapBytes ps.map).length else 0) + 1 := by
  cases hs : ps.space with
  | legacy =>
    have hrex : (psRex ps).isSome = ps.rexPresent := by cases hr : ps.rexPresent <;> simp [psRex, hr]
    simp only [psPrefix_legacy hs, headSize, hrex, prefixSize, hs, classCount, hmap, if_true]
    cases ps.map <;> rfl
  | vex =>
    simp only [psPrefix_vex hs, headSize, prefixSize, payloadSize, hs, commonCount, hmap, reduceCtorEq, if_false]
    split <;> rfl
  | evex => simp only [psPrefix_evex hs, headSize, prefixSize, payloadSize, hs, commonCount, reduceCtorEq, if_false]

/-- The opcode read is the escapes of its map and one byte; the prefix part is as before (R191, R192). -/
theorem readOpcode_size {q : Source} {t t' : Txn} (h : readOpcode q t = .ok t') :
    t'.pos = t.pos + (if t'.ps.space = .legacy then (mapBytes t'.ps.map).length else 0) + 1 ∧
      prefixSize t'.ps = prefixSize t.ps := by
  unfold readOpcode at h
  split at h
  · cases h
  · rename_i v t1 h1
    obtain ⟨-, rfl⟩ := readByte_ok.mp h1
    split at h
    · rename_i hs
      cases h
      exact ⟨by simp [hs], rfl⟩
    · rename_i hs
      rw [not_not] at hs
      have hsize (t2 : Txn) (map : OpMap) (w : Byte) (hps : t2.ps = t.ps) :
          prefixSize (withOpcode t2 map w).ps = prefixSize t.ps := by
        rw [withOpcode_ps, hps]
        simp only [prefixSize, hs]
        rfl
      split at h
      · cases h
        exact ⟨by simp [hs, mapBytes], hsize _ _ _ rfl⟩
      · split at h
        · cases h
        · rename_i v2 t2 h2
          obtain ⟨-, rfl⟩ := readByte_ok.mp h2
          split_ifs at h
          · obtain ⟨v3, -, rfl⟩ := readOpcodeIn_ok h
            exact ⟨by simp [hs, mapBytes], hsize _ _ _ rfl⟩
          · obtain ⟨v3, -, rfl⟩ := readOpcodeIn_ok h
            exact ⟨by simp [hs, mapBytes], hsize _ _ _ rfl⟩
          · cases h
            exact ⟨by simp [hs, mapBytes], hsize _ _ _ rfl⟩

/-- The ModRM byte is the one more byte that is read where a candidate has one (R194). -/
theorem readModRM_size {q : Source} {cand : List Row} {t t' : Txn} (hm : t.modrm = none)
    (h : readModRM q cand t = .ok t') :
    t'.ps = t.ps ∧ t'.pos = t.pos + t'.modrm.isSome.toNat ∧ t'.modrm.isSome = cand.any (·.hasModrm) ∧
      ∀ m, t'.modrm = some m → m.sib = none := by
  rcases readModRM_ok h with ⟨hany, v, -, rfl⟩ | ⟨hany, rfl⟩
  · refine ⟨rfl, rfl, hany.symm, fun m hm' => ?_⟩
    cases hm'
    rfl
  · refine ⟨rfl, by simp [hm], by simp [hm, hany], fun m hm' => ?_⟩
    cases hm.symm.trans hm'

/-- The dispatcher has read the head of the selected row, and the ModRM byte where that row has one (R191, R194). -/
theorem dispatchStage_size {q : Source} {t t' : Txn} {r : Row} (hm : t.modrm = none)
    (h : dispatchStage q t = .ok (r, t')) :
    t.pos + headSize r (psPrefix t'.ps) + t'.modrm.isSome.toNat = t'.pos + prefixSize t.ps ∧
      (r.hasModrm = true → t'.modrm.isSome = true) ∧ ∀ m, t'.modrm = some m → m.sib = none := by
  obtain ⟨t1, t2, hop, hmodrm, hsel, -, rfl⟩ := dispatchStage_ok h
  obtain ⟨hcand, -⟩ := mem_inMode_selected.mp (selectRow_mem hsel)
  obtain ⟨-, -, hmap, -⟩ := mem_candidates.mp hcand
  obtain ⟨hpos1, hsize⟩ := readOpcode_size hop
  have hm1 : t1.modrm = none := by
    obtain ⟨pos, map, v, -, -, rfl⟩ := readOpcode_ok hop
    exact hm
  obtain ⟨hps, hpos2, hsome, hnosib⟩ := readModRM_size hm1 hmodrm
  have hhead := headSize_psPrefix r hmap
  rw [← hps] at hhead hpos1 hsize
  refine ⟨?_, fun hr => ?_, hnosib⟩
  · simp only
    omega
  · exact hsome.trans (List.any_eq_true.mpr ⟨r, hcand, hr⟩)

/-- The SIB byte and the displacement that are read are those of the ModRM part (R229, R233). -/
theorem addressStage_size {q : Source} {a : AddrSize} {t t' : Txn} {m : ModRM} (hm : t.modrm = some m)
    (hsib : m.sib = none) (h : addressStage q a t = .ok t') :
    ∃ m', t'.modrm = some m' ∧ t'.pos + 1 = t.pos + m'.size := by
  rcases addressStage_ok h with ⟨hnone, -⟩ | ⟨m0, m1, t1, m2, t2, hm0, hreadSib, hreadDisp, rfl⟩
  · cases hm.symm.trans hnone
  · obtain rfl : m0 = m := Option.some.inj (hm0.symm.trans hm)
    obtain ⟨bs, hread, rfl⟩ := readDisp_ok hreadDisp
    obtain ⟨hlen, rfl⟩ := readBytes_ok hread
    have hsize : (dispOf bs).size = bs.length := dispOf_size (hlen ▸ dispLength_mem ..)
    refine ⟨_, rfl, ?_⟩
    rcases readSib_ok hreadSib with ⟨-, v, -, rfl, rfl⟩ | ⟨-, rfl, rfl⟩
    · simp only [ModRM.size, hsize, hlen, advance_pos, Option.isSome_some, Bool.toNat_true]
      omega
    · simp only [ModRM.size, hsize, hlen, hsib, Option.isSome_none, Bool.toNat_false]
      omega

/-- The trailing field that is read is as long as the row's shapes say (R111, R267 to R269). -/
theorem trailStage_size {q : Source} {a : AddrSize} {r : Row} {t t' : Txn} (h : trailStage q a r t = .ok t') :
    t'.trail.length = trailLength a r.ops ∧ t'.pos = t.pos + t'.trail.length := by
  obtain ⟨bs, hread, rfl⟩ := trailStage_ok h
  obtain ⟨hlen, -⟩ := readBytes_ok hread
  exact ⟨hlen, congrArg (t.pos + ·) hlen.symm⟩

/-! ## The whole decode -/

/-- A decode that succeeds has read at least the shortest head, the ModRM part where the row has one, and the trailing
field. -/
theorem decode_size {q : Source} {d : Decoded} {t : Txn} (h : decode q = .ok (d, t)) :
    ∃ r, d = decodedOf r (txnParts t) ∧ r.space = t.ps.space ∧
      t.trail.length = trailLength (addrSize q.bitness t.ps.has67) r.ops ∧
      q.start + headSize r (psPrefix t.ps) + (if r.hasModrm then (txnParts t).m.size else 0) + t.trail.length ≤ t.pos := by
  obtain ⟨t1, r, t2, t3, hpre, hdis, haddr, htrail, rfl⟩ := decode_ok h
  have hm1 : t1.modrm = none := by
    obtain ⟨pos, ps, rfl, -⟩ := scanned_of_prefixStage hpre
    rfl
  have hprefix := prefixStage_size hpre
  have hspace := (dispatched_of_dispatchStage hm1 hdis).space
  obtain ⟨hhead, hhas, hnosib⟩ := dispatchStage_size hm1 hdis
  obtain ⟨hps3, -, -, hadv, -⟩ := addressStage_frame haddr
  obtain ⟨hps, hmodrm, -⟩ := trailStage_frame htrail
  obtain ⟨hlen, hpos⟩ := trailStage_size htrail
  rw [← hps3, ← hps] at hspace hhead hlen
  refine ⟨r, rfl, hspace, hlen, ?_⟩
  cases hm : t2.modrm with
  | none =>
    have hnot : r.hasModrm = false := by
      rw [Bool.eq_false_iff]
      intro hr
      cases hm ▸ hhas hr
    simp only [hnot, Bool.false_eq_true, if_false]
    omega
  | some m =>
    obtain ⟨m', hm', hpos'⟩ := addressStage_size hm (hnosib m hm) haddr
    have hpart : (txnParts t).m = m' := by
      rw [Parts.m, txnParts, hmodrm, hm']
      rfl
    rw [hm, Option.isSome_some, Bool.toNat_true] at hhead
    rw [hpart]
    split <;> omega

/-- The parts that the decode has read are the fields of the instruction, but for a ModRM byte that the row does not have. -/
theorem size_build (f : Parts) {c : Code} {a : AddrSize} (hspace : f.pfx.space = c.row.space)
    (htrail : f.trail.length = trailLength a c.row.ops) :
    (Instr.build { toParts := f, code := c }).fields.size =
      headSize c.row f.pfx + (if c.row.hasModrm then f.m.size else 0) + f.trail.length := by
  rw [Fields.size, fields_build, prefixInSpace_eq_self hspace, writtenTrail_eq htrail]
  cases c.row.hasModrm <;> rfl

/-- Settles O25: what the encoder writes is as long as the fields, and the decode has read no less for each of them. -/
theorem encodeIsNeverLonger : Obligations.EncodeIsNeverLonger := by
  unfold Obligations.EncodeIsNeverLonger
  refine ⟨encode_length, fun q i t h => ?_⟩
  obtain ⟨r, hdec, hspace, htrail, hsize⟩ := decode_size h
  obtain ⟨c, hcode, href, rfl⟩ := decodedOf_instr.mp hdec.symm
  obtain ⟨osz, bs, rfl⟩ : ∃ osz bs, r = withKeys c.row osz bs :=
    ⟨r.osz, r.bitness, by rw [← isReference_eq hcode href]⟩
  rw [encode_length, size_build (txnParts t) ((psPrefix_space t.ps).trans hspace.symm) htrail, ← Nat.add_assoc,
    ← Nat.add_assoc]
  exact hsize

end Sys2Proof.Proofs
end

section
/-! PROOFS. REX in the scan loop (spec R96, R160 to R162): each byte that the loop consumes sets or clears the REX fields, so
the last one decides. -/

namespace Sys2Proof.Proofs

open Sys2Proof.Machine Sys2Proof.Laws

/-- The bits of a REX byte, as R96 writes them. -/
theorem rex_mask_iff {v : Byte} : v &&& 0xF0 = 0x40 ↔ v.toNat / 16 = 4 := by
  revert v
  decide

/-- No legacy prefix byte is a REX byte (R94, R96). -/
theorem not_rex_of_legacyPrefix {v : Byte} (h : v ∈ legacyPrefixBytes) : v &&& 0xF0 ≠ 0x40 := by
  revert v
  decide

/-- The REX fields are those of this byte: its bits when it is a REX byte, all 0 when it is not (R162). -/
structure RexOf (u : Byte) (ps : PrefixState) : Prop where
  present : ps.rexPresent = decide (u &&& 0xF0 = 0x40)
  w : ps.w = (ps.rexPresent && u.getLsbD 3)
  r : ps.r = (ps.rexPresent && u.getLsbD 2)
  x : ps.x = (ps.rexPresent && u.getLsbD 1)
  b : ps.b = (ps.rexPresent && u.getLsbD 0)

theorem rexOf_of_scanByte {b : Bitness} {u : Byte} {ps ps' : PrefixState} (h : scanByte b u ps = some ps') :
    RexOf u ps' := by
  by_cases hu : u ∈ legacyPrefixBytes
  · rw [scanByte_of_mem hu] at h
    cases h
    exact ⟨(decide_eq_false (not_rex_of_legacyPrefix hu)).symm, rfl, rfl, rfl, rfl⟩
  · rw [scanByte_of_not_mem hu] at h
    split at h
    · rename_i hrex
      cases h
      exact ⟨(decide_eq_true (rex_mask_iff.mpr hrex.2)).symm, rfl, rfl, rfl, rfl⟩
    · cases h

/-- The loop consumes a run of scannable bytes from any `PS`. -/
theorem exists_scanRun {b : Bitness} {vs : List Byte} (h : ∀ u ∈ vs, Scannable b u) (ps : PrefixState) :
    ∃ ps', scanRun b vs ps = some ps' := by
  induction vs generalizing ps with
  | nil => exact ⟨ps, rfl⟩
  | cons v vs ih =>
    obtain ⟨ps1, hbyte⟩ := Option.isSome_iff_exists.mp (scanByte_isSome.mpr (h v List.mem_cons_self))
    obtain ⟨ps', hrest⟩ := ih (fun u hu => h u (List.mem_cons_of_mem v hu)) (countPrefix ps1)
    exact ⟨ps', by rw [scanRun, hbyte, Option.bind_some, hrest]⟩

/-- After a run the REX fields are those of its last byte (R162). -/
theorem exists_scanRun_rexOf {b : Bitness} {vs : List Byte} {u : Byte} (h : ∀ x ∈ vs ++ [u], Scannable b x)
    (ps : PrefixState) : ∃ ps', scanRun b (vs ++ [u]) ps = some ps' ∧ RexOf u ps' := by
  obtain ⟨ps1, hrun⟩ := exists_scanRun (fun x hx => h x (List.mem_append_left [u] hx)) ps
  obtain ⟨ps2, hbyte⟩ : ∃ ps2, scanByte b u ps1 = some ps2 :=
    Option.isSome_iff_exists.mp (scanByte_isSome.mpr (h u (List.mem_append_right vs List.mem_cons_self)))
  obtain ⟨hpresent, hw, hr, hx, hb⟩ := rexOf_of_scanByte hbyte
  refine ⟨countPrefix ps2, ?_, ⟨hpresent, hw, hr, hx, hb⟩⟩
  rw [scanRun_append, hrun, Option.bind_some, scanRun, hbyte, Option.bind_some, scanRun]

/-- Settles O4: outside 64-bit mode the byte ends the loop; a run is consumed to its end, and its last byte decides. -/
theorem rexCountsOnlyAsLastScannedByte : Obligations.RexCountsOnlyAsLastScannedByte := by
  unfold Obligations.RexCountsOnlyAsLastScannedByte
  constructor
  · intro b v ps h64 hrex
    have hv : v ∉ legacyPrefixBytes := fun hmem => not_rex_of_legacyPrefix hmem hrex
    rw [scanByte_of_not_mem hv, if_neg (fun h => h64 h.1)]
  · intro q t vs u v legacy scanned hpos hlen hread hscanned hstop
    obtain ⟨ps, hrun, hrex⟩ := exists_scanRun_rexOf (b := q.bitness) hscanned t.ps
    have hbytes : vs ++ [u, v] = vs ++ [u] ++ v :: [] := by rw [List.append_assoc]; rfl
    have hlimit : t.pos + (vs ++ [u, v]).length ≤ q.start + maxLen := by
      rw [List.length_append, hpos, maxLen]
      exact Nat.add_le_add_left (Nat.add_le_add_right (Nat.le_of_lt_succ hlen) 2) q.start
    have hahead : Ahead q t (vs ++ [u] ++ v :: []) := hbytes ▸ ⟨hlimit, hread⟩
    have hfuel : (vs ++ [u]).length < 16 := by
      rw [List.length_append]
      exact Nat.lt_succ_of_lt (Nat.succ_lt_succ hlen)
    exact ⟨_, scanPrefixes_of_scanRun hahead hfuel hrun hstop, by simp [Nat.add_assoc], hrex.present, hrex.w, hrex.r,
      hrex.x, hrex.b⟩

end Sys2Proof.Proofs
end

section
/-! PROOFS. What `IP` reaches (spec R268, R378): the target of a branch operand and nothing else of a response. -/

namespace Sys2Proof.Proofs

open Sys2Proof.Machine Sys2Proof.Laws

/-- Only a branch shape reads `IP`, for the target (R268). -/
theorem eraseTarget_shapeOperand_ip (e : Env) (ip : Ip) (r : Row) (low : BitVec 3) (s : Shape) (bs : List Byte) :
    (shapeOperand { e with ip := ip } r low s bs).eraseTarget = (shapeOperand e r low s bs).eraseTarget := by
  cases s <;> rfl

theorem eraseTarget_rowOperands_ip (e : Env) (ip : Ip) (r : Row) (f : Parts) :
    (rowOperands { e with ip := ip } r f).map Operand.eraseTarget = (rowOperands e r f).map Operand.eraseTarget := by
  simp only [rowOperands, List.map_map]
  exact List.map_congr_left fun x _ => eraseTarget_shapeOperand_ip e ip r f.low x.1 x.2

/-- The empty slots have no target. -/
theorem map_eraseTarget_operandSlots (ops : List Operand) :
    (operandSlots ops).map Operand.eraseTarget = operandSlots (ops.map Operand.eraseTarget) := by
  simp only [operandSlots, List.map_take, List.map_append, List.map_replicate]
  rfl

/-- The same request with another `IP`. -/
def withIp (q : Request) (ip : Ip) : Request := { q with ip := ip }

/-- The record with another `IP` has other operands at most (R33, R272, R273). -/
theorem rowRecord_withIp {s s' : State} (hparams : s'.params = s.params) (q : Request) (ip : Ip) (t : Txn) (r : Row)
    (f : Parts) : rowRecord s' (withIp q ip) t r f = { rowRecord s q t r f with
      operands := operandSlots (rowOperands { envOf q t (Row.body r) f.pfx f.m with ip := ip } r f) } := by
  simp only [rowRecord, answerRecord, recordOf, rowOperands_length, hparams]
  rfl

/-- The response with another `IP` is the same up to targets: the LOCK check looks at the kind of operand 0 (R274, R378). -/
theorem eraseTarget_rowResponse_withIp {s s' : State} (hparams : s'.params = s.params) (q : Request) (ip : Ip) (t : Txn)
    (r : Row) (f : Parts) :
    (rowResponse s q t r f).eraseTarget = (rowResponse s' (withIp q ip) t r f).eraseTarget := by
  simp only [rowResponse, lockRefused_rowRecord]
  split
  · rfl
  · simp only [Response.eraseTarget, rowRecord_withIp hparams, rowRecord_operands, map_eraseTarget_operandSlots,
      eraseTarget_rowOperands_ip]

/-- Settles O40: the decode reads no `IP`, so both requests get the response of one row on the same parts. -/
theorem ipMovesOnlyBranchTargets : Obligations.IpMovesOnlyBranchTargets := by
  unfold Obligations.IpMovesOnlyBranchTargets
  intro s q ip hp
  have hp' : Pending { s with request := some (withIp q ip) } (withIp q ip) := ⟨rfl, hp.2⟩
  rcases step_cases s with ⟨hidle, -⟩ | ⟨q', k, hq', hdec, hs⟩ | ⟨q', r, t, hq', hdec, hd, hs⟩
  · exact absurd hp (hidle q)
  · obtain rfl := pending_unique hp hq'
    exact ⟨_, _, hs, step_of_decode_error hp' hdec, rfl⟩
  · obtain rfl := pending_unique hp hq'
    exact ⟨_, _, hs, step_of_decodesTo hp' hdec hd, eraseTarget_rowResponse_withIp rfl q ip t r _⟩

end Sys2Proof.Proofs
end

section
/-! PROOFS. The feature checks of the selected row (spec R199), one by one. -/

namespace Sys2Proof.Proofs

open Sys2Proof.Machine Sys2Proof.Laws

theorem hasVvvv_eq_false_iff {r : Row} : r.hasVvvv = false ↔ ∀ c, Shape.vvvv c ∉ r.ops := by
  rw [Row.hasVvvv, List.any_eq_false]
  constructor
  · exact fun h c hc => h _ hc rfl
  · intro h x hx hshape
    cases x with
    | vvvv c => exact h c hx
    | _ => cases hshape

theorem hasRegK_iff {r : Row} : r.hasRegK = true ↔ Shape.reg .k ∈ r.ops := by
  rw [Row.hasRegK, List.any_eq_true]
  constructor
  · rintro ⟨x, hx, hshape⟩
    split at hshape
    · exact hx
    · cases hshape
  · exact fun h => ⟨_, h, rfl⟩

/-- `vvvv` and `V'` on a row without that operand (R199). -/
theorem vvvvCheck_iff (space : Space) (has vp : Bool) (vvvv : BitVec 4) :
    (!(decide (space ≠ .legacy) && !has && (decide (vvvv ≠ 0) || vp))) = true ↔
      (space ≠ .legacy → has = false → vvvv.toNat = 0 ∧ vp = false) := by
  cases space <;> cases has <;> cases vp <;> simp [BitVec.toNat_eq]

/-- Opmask, zeroing, broadcast and rounding bits on a row that does not permit them (R199). -/
theorem evexCheck_iff (aaa : BitVec 3) (mod : BitVec 2) (z bcst k zeroing : Bool) (n : Nat) (ersae : ErSae) :
    (!(decide (aaa ≠ 0) && !k) && !(z && !zeroing) && !(z && decide (aaa = 0))
      && !(bcst && decide (mod ≠ 3) && decide (n = 0))
      && !(bcst && decide (mod = 3) && decide (ersae = .none))) = true ↔
      (aaa.toNat ≠ 0 → k = true) ∧ (z = true → zeroing = true) ∧ (z = true → aaa.toNat ≠ 0) ∧
        (bcst = true → mod ≠ 3 → n ≠ 0) ∧ (bcst = true → mod = 3 → ersae ≠ .none) := by
  have haaa : aaa.toNat = 0 ↔ aaa = 0 := by simp [BitVec.toNat_eq]
  simp only [Bool.and_eq_true, Bool.not_eq_true', Bool.and_eq_false_iff, decide_eq_false_iff_not, Bool.not_eq_false',
    ne_eq, not_not, haaa, and_assoc, or_iff_not_imp_left, Bool.not_eq_false]
  tauto

/-- A `k` register in ModRM.reg has no extension bit (R199). -/
theorem regKCheck_iff (has r rp : Bool) : (!(has && (r || rp))) = true ↔ (has = true → r = false ∧ rp = false) := by
  cases has <;> cases r <;> cases rp <;> simp

theorem featuresOk_iff (ps : PrefixState) (m : ModRM) (r : Row) : featuresOk ps m r = true ↔
    (ps.space ≠ .legacy → (∀ c, Shape.vvvv c ∉ r.ops) → ps.vvvv.toNat = 0 ∧ ps.vp = false) ∧
    (ps.space = .evex →
      (ps.aaa.toNat ≠ 0 → r.k = true) ∧ (ps.z = true → r.zeroing = true) ∧ (ps.z = true → ps.aaa.toNat ≠ 0) ∧
      (ps.bcst = true → m.mod ≠ 3 → r.bcst ≠ 0) ∧ (ps.bcst = true → m.mod = 3 → r.ersae ≠ .none)) ∧
    (Shape.reg .k ∈ r.ops → ps.r = false ∧ ps.rp = false) := by
  rw [← hasRegK_iff, ← hasVvvv_eq_false_iff, ← vvvvCheck_iff, ← evexCheck_iff, ← regKCheck_iff, featuresOk,
    Bool.and_eq_true, Bool.and_eq_true, and_assoc]
  refine and_congr_right fun _ => and_congr_left fun _ => ?_
  by_cases hs : ps.space = .evex
  · simp only [hs, ne_eq, not_true_eq_false, decide_false, Bool.false_or, forall_const]
  · simp only [hs, ne_eq, not_false_eq_true, decide_true, Bool.true_or, false_implies]

/-- With a selected row the dispatcher answers by its feature checks, and reads nothing more (R199, R200). -/
theorem dispatchStage_of_selectRow {q : Source} {t t1 t2 : Txn} {op : Byte} {r : Row} (h : readOpcode q t = .ok t1)
    (hop : t1.opcode = some op) (hm : readModRM q (candidates q.params.table t1.ps op) t1 = .ok t2)
    (hsel : selectRow q.bitness t2.ps (opSize q.bitness t2.ps.w t2.ps.has66) (t2.modrm.getD ModRM.zero)
      (candidates q.params.table t1.ps op) = .ok r) :
    dispatchStage q t = if featuresOk t2.ps (t2.modrm.getD ModRM.zero) r then .ok (r, dispatchedTo q r t2)
      else .error .InvalidOpcode := by
  have hcand : (candidates q.params.table t1.ps op).isEmpty = false :=
    List.isEmpty_eq_false_iff_exists_mem.mpr ⟨r, (mem_inMode_selected.mp (selectRow_mem hsel)).1⟩
  simp only [dispatchStage, h, hop, Option.getD_some, hcand, Bool.false_eq_true, if_false, hm, hsel]
  rfl

/-- Settles O19: the tests one by one, and they decide the dispatcher's answer on the selected row. -/
theorem featureChecksOfTheSelectedRow : Obligations.FeatureChecksOfTheSelectedRow := by
  unfold Obligations.FeatureChecksOfTheSelectedRow
  refine ⟨featuresOk_iff, fun q t t1 t2 op r h hop hm hsel =>
    ⟨fun hfeat => ?_, fun hfeat => ⟨dispatchedTo q r t2, ?_, rfl⟩⟩⟩
  · rw [dispatchStage_of_selectRow h hop hm hsel, if_neg (Bool.eq_false_iff.mp hfeat)]
  · rw [dispatchStage_of_selectRow h hop hm hsel, if_pos hfeat]

end Sys2Proof.Proofs
end

section
/-! PROOFS. The records of the rows with an operand in ModRM.rm and of the rows without memory (spec R400 to R519): in a
transaction a Legacy meaning that passes the LOCK check responds with the record of its row. -/

namespace Sys2Proof.Proofs

open Sys2Proof.Machine Sys2Proof.Laws

/-! ## Legacy rows -/

/-- A meaning that passes the LOCK check responds with its record (R274, R278). -/
theorem answer_of_lock_passes {s : State} {q : Request} {t : Txn} {y : Body} {p : Prefix} {m : Option ModRM}
    {ops : Env → List Operand} (h : InTxn s q t) (hpass : lockRefused y p (answerRecord s q t y p m ops) = false) :
    answer y p m ops s = .next (done s (.ok (answerRecord s q t y p m ops))) := by
  rw [answer_inTxn h, if_neg (Bool.eq_false_iff.mp hpass)]

theorem lockRefused_of_not_lock (y : Body) {p : Prefix} (out : Instruction) (h : p.lock = false) :
    lockRefused y p out = false := by
  simp only [lockRefused, h, Bool.false_and]

/-- The LOCK check passes on a lockable row with operand 0 in memory (R274). -/
theorem lockRefused_of_memory {y : Body} (p : Prefix) {out : Instruction} {d : MemDesc} {z : MemorySize}
    (hy : y.lockable = true) (h : out.operands.headD .none = .memory d z) : lockRefused y p out = false := by
  simp only [lockRefused, hy, h, Operand.isMemory, Bool.and_self, Bool.not_true, Bool.and_false]

/-- A lockable row with operand 0 in ModRM.rm, without LOCK or with that operand in memory. -/
theorem answer_lockable_rm {s : State} {q : Request} {t : Txn} {p : LegacyPrefix} {c : Code} {any : Bool} {m : ModRM}
    {cls : RegClass} {size : MemorySize} {later : Env → List Operand} (h : InTxn s q t)
    (hlock : p.lock = false ∨ m.mod ≠ 3) :
    answer { code := .ref c, mpAny := any, lockable := true } (.legacy p) (some m) (fun e => e.rm cls size :: later e) s =
      .next (done s (.ok (legacyRecord c p any (t.pos - q.start) (rmOpd q.bitness cls (.legacy p) 1 m size ::
        later (envOf q t { code := .ref c, mpAny := any } (.legacy p) m))))) := by
  have hrecord := answerRecord_legacy s q t p c any (some m) fun e => e.rm cls size :: later e
  refine (answer_of_lock_passes h ?_).trans (congrArg (fun out => Host.Outcome.next (done s (.ok out))) hrecord)
  rcases hlock with hlock | hmem
  · exact lockRefused_of_not_lock _ _ hlock
  · exact lockRefused_of_memory _ rfl (env_rm_of_mem hmem cls size)

/-- Settles O47: the rows of `Add` are lockable, those of `Mov` are not. -/
theorem recordsOfRmRegRows : Obligations.RecordsOfRmRegRows := by
  unfold Obligations.RecordsOfRmRegRows
  intro s q t p m hin x L
  refine ⟨?_, ?_, ?_, ?_, ?_, ?_, ?_, ?_⟩
  case refine_1 | refine_2 | refine_3 | refine_4 => exact answer_lockable_rm hin
  all_goals exact answer_legacy_of_not_lock hin

/-- Settles O48: no row with a register destination is lockable. -/
theorem recordsOfRegRmRows : Obligations.RecordsOfRegRmRows := by
  unfold Obligations.RecordsOfRegRmRows
  intro s q t p m hin x L
  refine ⟨?_, ?_, ?_, ?_, ?_, ?_, ?_, ?_⟩
  all_goals exact answer_legacy_of_not_lock hin

/-- Settles O49: the rows of `Add` with the destination in ModRM.rm are lockable, the other rows are not. -/
theorem recordsOfImmediateRows : Obligations.RecordsOfImmediateRows := by
  unfold Obligations.RecordsOfImmediateRows
  intro s q t p imm8 imm16 imm32 m low imm64 hin x L
  refine ⟨?_, ?_, ?_, ?_, ?_, ?_, ?_, ?_, ?_, ?_, ?_, ?_, ?_, ?_, ?_, ?_, ?_, ?_, ?_, ?_, ?_, ?_⟩
  case refine_5 | refine_7 | refine_8 | refine_9 | refine_13 | refine_14 | refine_15 => exact answer_lockable_rm hin
  all_goals exact answer_legacy_of_not_lock hin

/-- Settles O50: the rows with the register in the opcode byte are not lockable, those with ModRM.rm are. -/
theorem recordsOfIncDecRows : Obligations.RecordsOfIncDecRows := by
  unfold Obligations.RecordsOfIncDecRows
  intro s q t p low m hin x L
  refine ⟨?_, ?_, ?_, ?_, ?_, ?_, ?_, ?_, ?_, ?_, ?_, ?_⟩
  case refine_1 | refine_2 | refine_3 | refine_4 => exact answer_legacy_of_not_lock hin
  all_goals exact answer_lockable_rm hin

/-- Settles O52: the operand is the branch of R268. -/
theorem recordsOfBranchRows : Obligations.RecordsOfBranchRows := by
  unfold Obligations.RecordsOfBranchRows
  intro s q t p rel8 rel16 rel32 hin L
  and_intros
  all_goals exact answer_legacy_of_not_lock hin

/-- Settles O53: no row here is lockable, and none has an operand. -/
theorem recordsOfOperandlessRows : Obligations.RecordsOfOperandlessRows := by
  unfold Obligations.RecordsOfOperandlessRows
  intro s q t p m hin L
  and_intros
  all_goals exact answer_legacy_of_not_lock hin

/-- Settles O54: no row here is lockable; the factor of the displacement is 1 outside EVEX. -/
theorem recordsOfMemoryOnlyRows : Obligations.RecordsOfMemoryOnlyRows := by
  unfold Obligations.RecordsOfMemoryOnlyRows
  intro s q t p m hin x L
  and_intros
  all_goals exact answer_legacy_of_not_lock hin

/-- Settles O55: no row here is lockable, and none has the `mp` key `ANY`. -/
theorem recordsOfMmxAndSseRows : Obligations.RecordsOfMmxAndSseRows := by
  unfold Obligations.RecordsOfMmxAndSseRows
  intro s q t p m hin x L
  and_intros
  all_goals exact answer_legacy_of_not_lock hin

/-! ## VEX rows -/

/-- The record of a VEX meaning is the one that the row's rule describes (R273, R298). -/
theorem answerRecord_vex (s : State) (q : Request) (t : Txn) (p : VexPrefix) (c : Code) (m : Option ModRM)
    (ops : Env → List Operand) : answerRecord s q t { code := .ref c } (.vex p) m ops =
      vexRecord c p (t.pos - q.start) (ops (envOf q t { code := .ref c } (.vex p) (m.getD ModRM.zero))) := rfl

theorem answer_vex_of_not_lock {s : State} {q : Request} {t : Txn} {p : VexPrefix} {c : Code} {m : Option ModRM}
    {ops : Env → List Operand} (h : InTxn s q t) (hlock : p.lock = false) :
    answer { code := .ref c } (.vex p) m ops s = .next (done s (.ok (vexRecord c p (t.pos - q.start)
      (ops (envOf q t { code := .ref c } (.vex p) (m.getD ModRM.zero)))))) := by
  rw [answer_of_lock_passes h (lockRefused_of_not_lock (p := .vex p) _ _ hlock), answerRecord_vex]

/-- Settles O56: each meaning without LOCK responds with the record of its row. -/
theorem recordsOfVexRows : Obligations.RecordsOfVexRows := by
  unfold Obligations.RecordsOfVexRows
  intro s q t p m hin x L
  and_intros
  all_goals exact answer_vex_of_not_lock hin

/-! ## EVEX rows -/

/-- The environment of an EVEX row, with the factor of R236. -/
def evexEnv (q : Request) (t : Txn) (y : Body) (p : EvexPrefix) (m : ModRM) : Env :=
  { bitness := q.bitness, ip := q.ip, byteLength := t.pos - q.start, pfx := .evex p, modrm := m,
    mem := resolveMem q.bitness (.evex p) (bcstFactor p m y.n y.bcst) m }

theorem envOf_evex (q : Request) (t : Txn) (y : Body) (p : EvexPrefix) (m : ModRM) :
    envOf q t y (.evex p) m = evexEnv q t y p m := by
  rw [envOf, dispFactor_eq]
  rfl

/-- The record of an EVEX meaning is the one that the row's rule describes (R273, R291 to R294): the rep flags are those of
Legacy encodings only. -/
theorem answerRecord_evex {y : Body} {c : Code} (hc : y.code = .ref c) (s : State) (q : Request) (t : Txn)
    (p : EvexPrefix) (m : ModRM) (ops : Env → List Operand) : answerRecord s q t y (.evex p) (some m) ops =
      evexRecord c p (t.pos - q.start) (ops (evexEnv q t y p m)) (evexRounding y.ersae p m)
        (evexSae s.params y.ersae p m) := by
  have hrep : hasRepFlag y (.evex p) = false := rfl
  have hrepne : hasRepneFlag y (.evex p) = false := rfl
  rw [answerRecord, Option.getD_some, envOf_evex, recordOf, hc]
  simp only [evexEnv, vecExt_evex, hrep, hrepne]
  rfl

theorem answer_evex_of_not_lock {s : State} {q : Request} {t : Txn} {y : Body} {c : Code} {p : EvexPrefix} {m : ModRM}
    {ops : Env → List Operand} (h : InTxn s q t) (hc : y.code = .ref c) (hlock : p.lock = false) :
    answer y (.evex p) (some m) ops s = .next (done s (.ok (evexRecord c p (t.pos - q.start) (ops (evexEnv q t y p m))
      (evexRounding y.ersae p m) (evexSae s.params y.ersae p m)))) := by
  rw [answer_of_lock_passes h (lockRefused_of_not_lock (p := .evex p) _ _ hlock), answerRecord_evex hc]

/-- The operand in ModRM.rm of a row that permits broadcast (R236, R262, R270). -/
theorem evexEnv_rmBcst (q : Request) (t : Txn) (y : Body) (p : EvexPrefix) (m : ModRM) (c : RegClass)
    (size sizeB : MemorySize) : (evexEnv q t y p m).rmBcst c size sizeB =
      rmOpd q.bitness c (.evex p) (bcstFactor p m y.n y.bcst) m (bcstSize p m size sizeB) := by
  have hsize : (if bcstOn (.evex p) m then sizeB else size) = bcstSize p m size sizeB := by
    simp only [bcstOn, bcstSize, Bool.and_eq_true, decide_eq_true_eq]
    rfl
  rw [← hsize]
  rfl

/-- A row with the operands ModRM.reg, `vvvv` and ModRM.rm that permits broadcast. -/
theorem answer_evex_bcst {s : State} {q : Request} {t : Txn} {c : Code} {ersae : ErSae} {n nB : Nat} {p : EvexPrefix}
    {m : ModRM} {c0 c1 c2 : RegClass} {size sizeB : MemorySize} (h : InTxn s q t) (hlock : p.lock = false) :
    answer { code := .ref c, ersae := ersae, n := n, bcst := nB } (.evex p) (some m)
        (fun e => [e.reg c0, e.vvvv c1, e.rmBcst c2 size sizeB]) s =
      .next (done s (.ok (evexRecord c p (t.pos - q.start) [regOpd c0 (.evex p) m, vvvvOpd c1 (.evex p),
        rmOpd q.bitness c2 (.evex p) (bcstFactor p m n nB) m (bcstSize p m size sizeB)]
        (evexRounding ersae p m) (evexSae s.params ersae p m)))) := by
  rw [answer_evex_of_not_lock h rfl hlock, evexEnv_rmBcst]
  rfl

/-- Settles O57: the rows of one element permit rounding and no broadcast, the others broadcast. -/
theorem recordsOfEvexBroadcastAndRoundingRows : Obligations.RecordsOfEvexBroadcastAndRoundingRows := by
  unfold Obligations.RecordsOfEvexBroadcastAndRoundingRows
  intro s q t p m hin x L
  refine ⟨?_, ?_, ?_, ?_, ?_, ?_, ?_, ?_, ?_, ?_, ?_, ?_, ?_, ?_, ?_, ?_, ?_⟩
  case refine_7 | refine_8 => exact answer_evex_of_not_lock hin rfl
  all_goals exact answer_evex_bcst hin

/-- Settles O58: the operand in ModRM.rm has the row's own size and factor. -/
theorem recordsOfOtherEvexRows : Obligations.RecordsOfOtherEvexRows := by
  unfold Obligations.RecordsOfOtherEvexRows
  intro s q t p m hin x L
  and_intros
  all_goals exact answer_evex_of_not_lock hin rfl

end Sys2Proof.Proofs
end

section
/-! PROOFS. The reference contents of `TEMPLATE_ROM` are admissible (spec R203, R317): rows of different opcode pages accept
no common opcode byte, so the pairwise conditions are tested inside the pages. With that: the near-branch rows of 64-bit
mode, the invariant after reset, the source's fixtures, and the register names. -/

namespace Sys2Proof.Proofs

open Sys2Proof.Machine Sys2Proof.Laws

/-! ## Opcode pages -/

/-- The number of an encoding space. -/
def spaceNumber : Space → Nat
  | .legacy => 0
  | .vex => 1
  | .evex => 2

/-- The page of a row: its space, its map and the opcode byte without the bits that an opcode mask may leave out (R30). -/
def page (r : Row) : Nat := 1024 * spaceNumber r.space + 256 * mapNumber r.map + (r.op &&& 0xF8).toNat

/-- The opcode tests of two rows accept a common byte, for rows that pass their own tests (R193). -/
def ShareOpcode (r r' : Row) : Prop :=
  r.space = r'.space ∧ r.map = r'.map ∧ (r.op ^^^ r'.op) &&& r.opmask &&& r'.opmask = 0

theorem shareOpcode_of_opcodesOverlap {r r' : Row} (h : opcodesOverlap r r' = true) : ShareOpcode r r' := by
  simp only [opcodesOverlap, Bool.and_eq_true, decide_eq_true_eq] at h
  obtain ⟨⟨⟨⟨hspace, hmap⟩, hop⟩, -⟩, -⟩ := h
  exact ⟨hspace, hmap, hop⟩

theorem ShareOpcode.symm {r r' : Row} (h : ShareOpcode r r') : ShareOpcode r' r := by
  obtain ⟨hspace, hmap, hop⟩ := h
  refine ⟨hspace.symm, hmap.symm, ?_⟩
  rw [BitVec.xor_comm, BitVec.and_assoc, BitVec.and_comm r'.opmask, ← BitVec.and_assoc, hop]

/-- Bytes that agree under the masks agree outside the three low bits, which are all that a mask leaves out. -/
theorem and_high_eq_of_masks {x y mask mask' : Byte} (hm : mask &&& mask' &&& 0xF8 = 0xF8)
    (h : (x ^^^ y) &&& mask &&& mask' = 0) : x &&& 0xF8 = y &&& 0xF8 := by
  have hzero : (x ^^^ y) &&& 0xF8 = 0 := by
    rw [← hm, ← BitVec.and_assoc, ← BitVec.and_assoc, h]
    rfl
  have hdistrib : (x &&& 0xF8) ^^^ (y &&& 0xF8) = (x ^^^ y) &&& 0xF8 := by
    ext i hi
    simp only [BitVec.getElem_xor, BitVec.getElem_and, Bool.and_xor_distrib_right]
  exact BitVec.xor_eq_zero_iff.mp (hdistrib.trans hzero)

/-- The opcode masks of a table are FFh and F8h (R30). -/
def MasksOf (rows : List Row) : Prop := ∀ r ∈ rows, r.opmask = 0xFF ∨ r.opmask = 0xF8

theorem page_eq_of_shareOpcode {r r' : Row} (hr : r.opmask = 0xFF ∨ r.opmask = 0xF8)
    (hr' : r'.opmask = 0xFF ∨ r'.opmask = 0xF8) (h : ShareOpcode r r') : page r = page r' := by
  obtain ⟨hspace, hmap, hop⟩ := h
  have hmask : r.opmask &&& r'.opmask &&& 0xF8 = 0xF8 := by
    rcases hr with hr | hr <;> rcases hr' with hr' | hr' <;> rw [hr, hr'] <;> rfl
  rw [page, page, hspace, hmap, and_high_eq_of_masks hmask hop]

/-- Two values of a key that no input can both match. -/
def differ {α : Type} [BEq α] (k k' : Option α) : Bool := k.any fun x => k'.any fun y => x != y

/-- Two rows differ in a key of R195 to R197, or have no mode in common. -/
def keysDiffer (r r' : Row) : Bool :=
  differ r.mp r'.mp || differ r.osz r'.osz || differ r.w r'.w || differ r.l r'.l || differ r.reg r'.reg ||
    differ r.mod r'.mod || r.bitness.all fun b => !r'.bitness.contains b

theorem exists_of_differ {α : Type} [BEq α] {k k' : Option α} (h : differ k k' = true) :
    ∃ x y, k = some x ∧ k' = some y ∧ (x != y) = true := by
  simpa [differ, Option.any_eq_true] using h

/-- An input matches one value of a key at most. -/
theorem not_match_of_differ {α : Type} [BEq α] [LawfulBEq α] {k k' : Option α} (h : differ k k' = true) (x : α)
    (hk : k.all (· == x) = true) : k'.all (· == x) = false := by
  obtain ⟨y, z, rfl, rfl, hne⟩ := exists_of_differ h
  obtain rfl : y = x := eq_of_beq hk
  rw [Option.all_some, Bool.eq_false_iff]
  exact fun hzy => bne_iff_ne.mp hne (eq_of_beq hzy).symm

/-- Rows that differ in a key cannot both pass the dispatcher's tests (R203 (b)). -/
theorem bothPass_of_keysDiffer {r r' : Row} (h : keysDiffer r r' = true) : bothPass r r' = false := by
  rw [Bool.eq_false_iff]
  intro hboth
  simp only [bothPass, Bool.and_eq_true, List.any_eq_true, Row.passes] at hboth
  obtain ⟨⟨-, hreg⟩, x, -, ⟨hpass, hpass'⟩, -⟩ := hboth
  obtain ⟨⟨⟨⟨⟨hmp, hosz⟩, hw⟩, hmod⟩, hl⟩, hmode⟩ := hpass
  obtain ⟨⟨⟨⟨⟨hmp', hosz'⟩, hw'⟩, hmod'⟩, hl'⟩, hmode'⟩ := hpass'
  simp only [keysDiffer, Bool.or_eq_true] at h
  rcases h with ⟨⟨⟨⟨⟨hd | hd⟩ | hd⟩ | hd⟩ | hd⟩ | hd⟩ | hd
  · exact Bool.eq_false_iff.mp (not_match_of_differ hd _ hmp) hmp'
  · exact Bool.eq_false_iff.mp (not_match_of_differ hd _ hosz) hosz'
  · exact Bool.eq_false_iff.mp (not_match_of_differ hd _ hw) hw'
  · obtain ⟨y, z, hy, hz, hne⟩ := exists_of_differ hd
    rw [hy, Option.all_some, beq_iff_eq] at hl
    rw [hz, Option.all_some, beq_iff_eq, hl] at hl'
    exact bne_iff_ne.mp hne (Option.some.inj hl')
  · obtain ⟨y, z, hy, hz, hne⟩ := exists_of_differ hd
    rw [hy, hz, Option.all_some, Option.all_some, beq_iff_eq] at hreg
    exact bne_iff_ne.mp hne hreg.symm
  · obtain ⟨y, z, hy, hz, hne⟩ := exists_of_differ hd
    rw [hy] at hmod
    rw [hz] at hmod'
    cases y <;> cases z <;> simp_all
  · have hnot := List.all_eq_true.mp hd _ (List.contains_iff_mem.mp hmode)
    rw [hmode'] at hnot
    contradiction

/-- Two rows that may stand in one table: they share no opcode byte, or agree on `has_modrm` and differ in a key. -/
def compatible (r r' : Row) : Bool :=
  decide ((r.op ^^^ r'.op) &&& r.opmask &&& r'.opmask ≠ 0) || (r.hasModrm == r'.hasModrm && keysDiffer r r')

/-- That condition on the rows that stand in one page. -/
def pagewiseCompatible : List Row → Bool
  | [] => true
  | r :: rs => rs.all (fun r' => page r != page r' || compatible r r') && pagewiseCompatible rs

theorem pagewiseCompatible_iff (rows : List Row) :
    pagewiseCompatible rows = true ↔ rows.Pairwise fun r r' => page r = page r' → compatible r r' = true := by
  induction rows with
  | nil => simp [pagewiseCompatible]
  | cons r rs ih => simp [pagewiseCompatible, ih, List.pairwise_cons, or_iff_not_imp_left]

section
variable {rows : List Row} (hmask : MasksOf rows) (h : pagewiseCompatible rows = true)
include hmask h

/-- Rows of different pages are compatible as well, as they share no opcode byte. -/
theorem pairwise_of_pagewise :
    rows.Pairwise fun r r' => ShareOpcode r r' → r.hasModrm = r'.hasModrm ∧ keysDiffer r r' = true := by
  refine ((pagewiseCompatible_iff rows).mp h).imp_of_mem fun {r r'} hr hr' hpage hs => ?_
  have hc := hpage (page_eq_of_shareOpcode (hmask r hr) (hmask r' hr') hs)
  obtain ⟨-, -, hop⟩ := hs
  simpa only [compatible, hop, ne_eq, not_true_eq_false, decide_false, Bool.false_or, Bool.and_eq_true, beq_iff_eq] using hc

/-- Rows that share an opcode byte agree on `has_modrm` (R203 (a)). -/
theorem hasModrm_of_shareOpcode {r r' : Row} (hr : r ∈ rows) (hr' : r' ∈ rows) (hs : ShareOpcode r r') :
    r.hasModrm = r'.hasModrm := by
  have hpair : rows.Pairwise fun r r' => ShareOpcode r r' → r.hasModrm = r'.hasModrm :=
    (pairwise_of_pagewise hmask h).imp fun hrr hs => (hrr hs).1
  exact hpair.forall_of_forall_of_flip (fun _ _ _ => rfl) (hpair.imp fun hrr hs => (hrr hs.symm).symm) hr hr' hs

/-- No two rows can both pass (R203 (b)). -/
theorem pairwise_bothPass : rows.Pairwise fun r r' => bothPass r r' = false := by
  refine (pairwise_of_pagewise hmask h).imp fun {r r'} hrr => ?_
  by_cases ho : opcodesOverlap r r' = true
  · exact bothPass_of_keysDiffer (hrr (shareOpcode_of_opcodesOverlap ho)).2
  · simp only [bothPass, ho, Bool.false_and]

/-- The pages and the single rows make a table admissible (R203). -/
theorem admissible_of_pagewise (hrows : ∀ r ∈ rows, rowAdmissible r = true) : admissible rows = true :=
  (admissible_iff rows).mpr
    ⟨fun _ hr _ hr' ho => hasModrm_of_shareOpcode hmask h hr hr' (shareOpcode_of_opcodesOverlap ho),
      pairwise_bothPass hmask h, hrows⟩

end

/-! ## The reference contents -/

/-- Each reference content is the table of some parameters. -/
theorem exists_params_of_mem {rom : List Row} (hrom : rom ∈ [templateRom, templateRom16]) :
    ∃ p : Params, p.rom = .reference ∧ p.table = rom := by
  simp only [List.mem_cons, List.not_mem_nil, or_false] at hrom
  rcases hrom with rfl | rfl
  · exact ⟨Params.reference, rfl, table_ignore66 _ rfl rfl⟩
  · exact ⟨{ Params.reference with branch66In64 := .width16 }, rfl, table_width16 _ rfl rfl⟩

/-- Every row of a reference content is the row of a code with its own keys `osz` and `bitness` (R317). -/
theorem exists_row_of_mem {rom : List Row} (hrom : rom ∈ [templateRom, templateRom16]) {r : Row} (hr : r ∈ rom) :
    ∃ (c : Code) (osz : Option OpSize) (bs : List Bitness), r = withKeys c.row osz bs := by
  obtain ⟨p, hp, rfl⟩ := exists_params_of_mem hrom
  exact mem_reference_table hp hr

theorem rowAdmissible_of_mem {rom : List Row} (hrom : rom ∈ [templateRom, templateRom16]) {r : Row} (hr : r ∈ rom) :
    rowAdmissible r = true := by
  obtain ⟨c, osz, bs, rfl⟩ := exists_row_of_mem hrom hr
  exact rowAdmissible_row c

theorem code_opmask (c : Code) : c.row.opmask = 0xFF ∨ c.row.opmask = 0xF8 := by
  have h : (c.row.opmask == 0xFF || c.row.opmask == 0xF8) = true := by cases c <;> rfl
  simpa only [Bool.or_eq_true, beq_iff_eq] using h

theorem masksOf_reference {rom : List Row} (hrom : rom ∈ [templateRom, templateRom16]) : MasksOf rom := by
  intro r hr
  obtain ⟨c, osz, bs, rfl⟩ := exists_row_of_mem hrom hr
  exact code_opmask c

theorem pagewiseCompatible_templateRom : pagewiseCompatible templateRom = true := by decide +kernel

theorem pagewiseCompatible_templateRom16 : pagewiseCompatible templateRom16 = true := by decide +kernel

theorem pagewiseCompatible_reference {rom : List Row} (hrom : rom ∈ [templateRom, templateRom16]) :
    pagewiseCompatible rom = true := by
  simp only [List.mem_cons, List.not_mem_nil, or_false] at hrom
  rcases hrom with rfl | rfl
  · exact pagewiseCompatible_templateRom
  · exact pagewiseCompatible_templateRom16

theorem admissible_reference {rom : List Row} (hrom : rom ∈ [templateRom, templateRom16]) : admissible rom = true :=
  admissible_of_pagewise (masksOf_reference hrom) (pagewiseCompatible_reference hrom) fun _ => rowAdmissible_of_mem hrom

/-! ## The near branches of 64-bit mode -/

/-- `CAND` depends on the space and the map alone (R193). -/
theorem candidates_congr {ps ps' : PrefixState} (hspace : ps.space = ps'.space) (hmap : ps.map = ps'.map)
    (rows : List Row) (op : Byte) : candidates rows ps op = candidates rows ps' op := by
  simp only [candidates, hspace, hmap]

/-- No key of the row tests anything but the operand size. -/
def OnlyOszKey (r : Row) : Prop := r.mp = none ∧ r.w = none ∧ r.reg = none ∧ r.mod = none ∧ r.l = none

theorem keyMatch_of_onlyOszKey {r : Row} (h : OnlyOszKey r) (ps : PrefixState) (osz : OpSize) (m : ModRM) :
    keyMatch ps osz m r = r.osz.all fun x => decide (x = osz) := by
  obtain ⟨hmp, hw, hreg, hmod, -⟩ := h
  simp [keyMatch, modMatches, hmp, hw, hreg, hmod]

/-- Among such rows the prefixes and the ModRM byte select nothing. -/
theorem selectRow_of_onlyOszKey {cand : List Row} (h : ∀ r ∈ cand, OnlyOszKey r) (b : Bitness) (ps : PrefixState)
    (osz : OpSize) (m : ModRM) :
    selectRow b ps osz m cand = selectRow b PrefixState.initial osz ModRM.zero cand := by
  have hselected : ∀ (ps : PrefixState) (m : ModRM),
      selected ps osz m cand = cand.filter fun r => r.osz.all fun x => decide (x = osz) := by
    intro ps m
    rw [selected, List.filter_filter]
    refine List.filter_congr fun r hr => ?_
    obtain ⟨-, -, -, -, hl⟩ := h r hr
    rw [keyMatch_of_onlyOszKey (h r hr), lengthMatch, hl, Option.all_none, Bool.true_and]
  simp only [selectRow, hselected]

/-- The candidates of a near branch's opcode. -/
def branchCandidates (rows : List Row) (x : Code × Code) : List Row :=
  candidates rows { PrefixState.initial with map := x.1.row.map } x.1.row.op

/-- The row that `width16` gives a near branch at an operand size (R317). -/
def width16Row (x : Code × Code) : OpSize → Row
  | .o16 => withKeys x.2.row (some .o16) [.b64]
  | osz => withKeys x.1.row (some osz) x.1.row.bitness

theorem onlyOszKey_branchCandidates {rom : List Row} (hrom : rom ∈ [templateRom, templateRom16]) :
    ∀ x ∈ branchPairs, ∀ r ∈ branchCandidates rom x, OnlyOszKey r := by
  unfold OnlyOszKey
  simp only [List.mem_cons, List.not_mem_nil, or_false] at hrom
  rcases hrom with rfl | rfl <;> decide +kernel

theorem selectRow_branch_ignore66 (osz : OpSize) : ∀ x ∈ branchPairs,
    selectRow .b64 PrefixState.initial osz ModRM.zero (branchCandidates templateRom x) = .ok x.1.row := by
  cases osz <;> decide +kernel

theorem selectRow_branch_width16 (osz : OpSize) : ∀ x ∈ branchPairs,
    selectRow .b64 PrefixState.initial osz ModRM.zero (branchCandidates templateRom16 x) = .ok (width16Row x osz) := by
  cases osz <;> decide +kernel

/-- The row a near-branch opcode selects in 64-bit mode, whatever the prefixes and the ModRM byte. -/
theorem selectRow_branch {p : Params} (hp : p.rom = .reference) {x : Code × Code} (hx : x ∈ branchPairs)
    {ps : PrefixState} (hspace : ps.space = .legacy) (hmap : ps.map = x.1.row.map) (osz : OpSize) (m : ModRM) :
    selectRow .b64 ps osz m (candidates p.table ps x.1.row.op) =
      .ok (if p.branch66In64 = .width16 then width16Row x osz else x.1.row) := by
  have hcand : candidates p.table ps x.1.row.op = branchCandidates p.table x := candidates_congr hspace hmap _ _
  cases hb : p.branch66In64 with
  | ignore66 =>
    rw [table_ignore66 p hp hb] at hcand ⊢
    have hkeys := onlyOszKey_branchCandidates (rom := templateRom) (by simp) x hx
    rw [hcand, selectRow_of_onlyOszKey hkeys, selectRow_branch_ignore66 osz x hx]
    rfl
  | width16 =>
    rw [table_width16 p hp hb] at hcand ⊢
    have hkeys := onlyOszKey_branchCandidates (rom := templateRom16) (by simp) x hx
    rw [hcand, selectRow_of_onlyOszKey hkeys, selectRow_branch_width16 osz x hx]
    rfl

theorem withKeys_isReference (c : Code) (osz : Option OpSize) (bs : List Bitness) :
    (withKeys c.row osz bs).isReference = true := by
  simp only [Row.isReference, row_code, decide_eq_true_eq]
  exact (congrArg (fun k => { c.row with code := k }) (row_code c)).symm

theorem width16Row_isReference (x : Code × Code) (osz : OpSize) : (width16Row x osz).isReference = true := by
  cases osz <;> exact withKeys_isReference _ _ _

theorem width16Row_code (x : Code × Code) (osz : OpSize) :
    (width16Row x osz).code = .ref (if osz = .o16 then x.2 else x.1) := by
  cases osz <;> exact row_code _

/-- Settles O17: rows of one opcode page are compared, rows of different pages share no opcode; and the candidates of a near
branch have no key but the operand size. -/
theorem templateRomIsAdmissible : Obligations.TemplateRomIsAdmissible := by
  unfold Obligations.TemplateRomIsAdmissible
  intro memShape modrmShape
  have hmem : memShape = Shape.memLike := by
    funext s
    cases s <;> rfl
  have hmodrm : modrmShape = Shape.needsModrm := by
    funext s
    cases s <;> rfl
  clear_value memShape modrmShape
  subst hmem hmodrm
  refine ⟨rfl, fun rom hrom => ⟨admissible_reference hrom, ?_, ?_⟩, ?_⟩
  · simp only [List.all_eq_true, Bool.or_eq_true, Bool.not_eq_true', ← Bool.not_eq_true, or_iff_not_imp_left, not_not,
      Bool.and_eq_true, decide_eq_true_eq, beq_iff_eq, and_assoc]
    exact fun r hr r' hr' =>
      hasModrm_of_shareOpcode (masksOf_reference hrom) (pagewiseCompatible_reference hrom) hr hr'
  · refine List.all_eq_true.mpr fun r hr => ?_
    have hrow := rowAdmissible_of_mem hrom hr
    rw [rowAdmissible, Bool.and_eq_true, Bool.and_eq_true] at hrow
    obtain ⟨⟨hconditions, -⟩, -⟩ := hrow
    exact hconditions
  · intro c64 c16 hx p ps osz m hp hspace hmap
    have hpair : (c64, c16) ∈ branchPairs := by
      revert hx
      simp only [branchPairs, List.mem_cons]
      tauto
    refine ⟨_, selectRow_branch hp hpair hspace hmap osz m, ?_⟩
    cases hb : p.branch66In64 with
    | ignore66 => exact ⟨row_isReference c64, by simp [row_code]⟩
    | width16 => exact ⟨width16Row_isReference (c64, c16) osz, by simp [width16Row_code]⟩

/-- Settles O36: the empty buffer and the missing response ask for nothing, so the table alone decides. -/
theorem resetHasTheInvariant : Obligations.ResetHasTheInvariant := by
  unfold Obligations.ResetHasTheInvariant
  have hinv : ∀ p : Params, admissible p.table = true → (State.resetWith p).Inv := fun p hp =>
    ⟨hp, rfl, rfl, fun r hr => absurd hr (by simp)⟩
  refine ⟨hinv Params.reference ?_, hinv⟩
  rw [table_ignore66 _ rfl rfl]
  exact admissible_reference (by simp)

/-! ## The round trip on byte strings (spec 30) -/

theorem row_mem_templateRom (c : Code) : c.row ∈ templateRom :=
  List.mem_map_of_mem (List.contains_iff_mem.mp (by cases c <;> rfl))

/-- The bytes of a well-formed instruction decode to it under the reference parameters. -/
theorem decodeBytes_of_encode {b : Bitness} {i : Instr} {bs : List Byte} (h : WellFormed b i = true)
    (hbs : encode i = bs) : decodeBytes b bs = .ok i := by
  subst hbs
  let q : Source := { buf := Memory.ofBytes (encode i), start := 0, bitness := b, params := Params.reference }
  have htable : Params.reference.table = templateRom := table_ignore66 _ rfl rfl
  have hrow : i.row ∈ Params.reference.table := htable ▸ row_mem_templateRom i.code
  have hadm : admissible Params.reference.table = true := htable ▸ admissible_reference (by simp)
  obtain ⟨t, hdecode, -⟩ := decode_encode (q := q) hadm (wellFormedIn_of_row hrow h) (holdsBytes_ofBytes _)
  rw [decodeBytes, hdecode]

/-- Settles O20: the strings are the encodings of their instructions, which are well formed. -/
theorem specFixturesDecode : Obligations.SpecFixturesDecode := by
  unfold Obligations.SpecFixturesDecode
  refine ⟨decodeBytes_of_encode (by decide) (by decide), decodeBytes_of_encode (by decide) (by decide),
    fun b => decodeBytes_of_encode ?_ (by decide), decodeBytes_of_encode (by decide) (by decide),
    decodeBytes_of_encode (by decide) (by decide)⟩
  cases b <;> decide

/-! ## Register names (spec 10, section 7) -/

/-- Settles O10: every name is read off `RegOf` number by number, with and without a REX byte. -/
theorem registerNamesByNumber : Obligations.RegisterNamesByNumber := by
  unfold Obligations.RegisterNamesByNumber
  intro names
  refine ⟨rfl, rfl, fun rexp => ⟨rfl, rfl, rfl, ?_, ?_, ?_, ?_, ?_⟩⟩
  all_goals cases rexp <;> rfl

end Sys2Proof.Proofs
end
